-- ==== Sys2Proof/Word.lean ====
section
/-!
DEFINITION. The value widths of the machine (00_scope.md R7) and the closed name sets its rules speak of:
registers, pairs, flags, conditions, Actions, Locations, formats, table entries.
-/
namespace Sys2Proof

/-- `u8` of 00_scope.md R7. -/
abbrev Byte := BitVec 8
/-- `u16` of 00_scope.md R7. -/
abbrev Word := BitVec 16

/-- The seven general registers (10_state.md R21). `F` is never a `Reg8` operand (40_step.md R135). -/
inductive Reg8 where
  | A | B | C | D | E | H | L
deriving DecidableEq, Repr

/-- The four paired views (10_state.md R25), high register named first. -/
inductive Pair where
  | AF | BC | DE | HL
deriving DecidableEq, Repr

/-- The pairs that may hold an address: `IndByte(rr)` takes `BC DE HL` only (40_step.md R134, R137). -/
inductive AddrPair where
  | BC | DE | HL
deriving DecidableEq, Repr

/-- The four flags by the spec's letters (00_scope.md R10): ZERO, SUBTRACT, HALF_CARRY, CARRY. -/
inductive Flag where
  | Z | N | H | C
deriving DecidableEq, Repr

/-- The five jump conditions (40_step.md R147); `always` is the table's `TRUE`. -/
inductive Cond where
  | always | Z | NZ | C | NC
deriving DecidableEq, Repr

/-- The Action tags of the opcode table (40_step.md R133). -/
inductive Action where
  | nop | ld | ld16 | jp | cpl | ccf | inc | dec | inc16 | dec16 | xor
  | add | add16 | adc | sub | sbc | and | or | cp
  | unimplemented | illegal
deriving DecidableEq, Repr

/-- The closed set of Addressing-Mode Locations (40_step.md R134). The operand bytes are not part of a
Location: `imm8` and `imm16` are fields of the instruction (30_encoding.md R102, R103). -/
inductive Loc where
  | reg8 (r : Reg8)            -- R135
  | reg16 (rr : Pair)          -- R136
  | indByte (rr : AddrPair)    -- R137
  | indC                       -- R138
  | indHLInc                   -- R139
  | indHLDec                   -- R139
  | imm8                       -- R140
  | imm16                      -- R140
  | immIndByte8                -- R141
  | immIndByte16               -- R142
  | indWord (rr : AddrPair)    -- R143
  | immIndWord8                -- R143
  | immIndWord16               -- R143
deriving DecidableEq, Repr

/-- The three instruction formats (30_encoding.md R101). -/
inductive Format where
  | OP | OP_D8 | OP_D16
deriving DecidableEq, Repr

/-- One entry of the Opcode Table (30_encoding.md R105), without the cycle count, which is `Config.cycles`.
`operands` are destination first; `cond` is the condition of a `JP` entry. -/
structure Entry where
  action   : Action
  cond     : Option Cond
  operands : List Loc
  format   : Format
deriving DecidableEq, Repr

/-- The operand field of an instruction (30_encoding.md R102, R103). -/
inductive Operand where
  | none
  | imm8 (v : Byte)
  | imm16 (v : Word)
deriving DecidableEq, Repr

end Sys2Proof
end

