-- ==== Sys2Proof/Config.lean ====
section
/-!
DEFINITION. The parameters of the step (00_scope.md R6). They are constants of a machine, not state
(10_state.md R33); the model carries the three that a step reads in `State.cfg` (notes/assumptions/4.md).
-/
namespace Sys2Proof

/-- The policy parameters a step reads (40_step.md R148). -/
structure Config where
  /-- `CPL_SETS_NH` (45_cpl_ccf.md R320, D5). -/
  cplSetsNH  : Bool
  /-- `CCF_NH_VALUE` (45_cpl_ccf.md R321, D6). -/
  ccfNhValue : Bool
  /-- `HIGH_BASE` (40_step.md R141, D7). -/
  highBase   : Word
deriving DecidableEq, Repr

/-- `CYCLES` (30_encoding.md R120, D14): one count per opcode byte, given by no rule and read by no rule.
Opaque, so that nothing can be proved of a count (notes/assumptions/5.md). -/
opaque Config.cycles : Byte → Nat

end Sys2Proof
end

