-- ==== Sys2Proof/Syntax.lean ====
section
/-!
DEFINITION. The instructions: one constructor per row of the opcode table (30_encoding.md section 6,
spec/opcode_table.json), by format and then in opcode order. A constructor carries the operand field of its format
(30_encoding.md R101 to R103), also where the row traps: the decoder reads the field and the trap record reports it.
-/
namespace Sys2Proof

/-- One row of the opcode map per constructor. -/
inductive Instr where
  -- two bytes: opcode, imm8
  | ld_B_d8 (imm8 : Byte)
  | ld_C_d8 (imm8 : Byte)
  | stop (imm8 : Byte)
  | ld_D_d8 (imm8 : Byte)
  | jr_r8 (imm8 : Byte)
  | ld_E_d8 (imm8 : Byte)
  | jr_NZ_r8 (imm8 : Byte)
  | ld_H_d8 (imm8 : Byte)
  | jr_Z_r8 (imm8 : Byte)
  | ld_L_d8 (imm8 : Byte)
  | jr_NC_r8 (imm8 : Byte)
  | ld_indHL_d8 (imm8 : Byte)
  | jr_C_r8 (imm8 : Byte)
  | ld_A_d8 (imm8 : Byte)
  | add_A_d8 (imm8 : Byte)
  | prefix_CB (imm8 : Byte)
  | adc_A_d8 (imm8 : Byte)
  | sub_A_d8 (imm8 : Byte)
  | sbc_A_d8 (imm8 : Byte)
  | ldh_indA8_A (imm8 : Byte)
  | and_A_d8 (imm8 : Byte)
  | add_SP_r8 (imm8 : Byte)
  | xor_A_d8 (imm8 : Byte)
  | ldh_A_indA8 (imm8 : Byte)
  | or_A_d8 (imm8 : Byte)
  | ld_HL_SPr8 (imm8 : Byte)
  | cp_A_d8 (imm8 : Byte)
  -- three bytes: opcode, imm16 low, imm16 high
  | ld_BC_d16 (imm16 : Word)
  | ld_indA16_SP (imm16 : Word)
  | ld_DE_d16 (imm16 : Word)
  | ld_HL_d16 (imm16 : Word)
  | ld_SP_d16 (imm16 : Word)
  | jp_NZ_a16 (imm16 : Word)
  | jp_a16 (imm16 : Word)
  | call_NZ_a16 (imm16 : Word)
  | jp_Z_a16 (imm16 : Word)
  | call_Z_a16 (imm16 : Word)
  | call_a16 (imm16 : Word)
  | jp_NC_a16 (imm16 : Word)
  | call_NC_a16 (imm16 : Word)
  | jp_C_a16 (imm16 : Word)
  | call_C_a16 (imm16 : Word)
  | ld_indA16_A (imm16 : Word)
  | ld_A_indA16 (imm16 : Word)
  -- one byte: opcode
  | nop
  | ld_indBC_A
  | inc_BC
  | inc_B
  | dec_B
  | rlca
  | add_HL_BC
  | ld_A_indBC
  | dec_BC
  | inc_C
  | dec_C
  | rrca
  | ld_indDE_A
  | inc_DE
  | inc_D
  | dec_D
  | rla
  | add_HL_DE
  | ld_A_indDE
  | dec_DE
  | inc_E
  | dec_E
  | rra
  | ld_indHLinc_A
  | inc_HL
  | inc_H
  | dec_H
  | daa
  | add_HL_HL
  | ld_A_indHLinc
  | dec_HL
  | inc_L
  | dec_L
  | cpl
  | ld_indHLdec_A
  | inc_SP
  | inc_indHL
  | dec_indHL
  | scf
  | add_HL_SP
  | ld_A_indHLdec
  | dec_SP
  | inc_A
  | dec_A
  | ccf
  | ld_B_B
  | ld_B_C
  | ld_B_D
  | ld_B_E
  | ld_B_H
  | ld_B_L
  | ld_B_indHL
  | ld_B_A
  | ld_C_B
  | ld_C_C
  | ld_C_D
  | ld_C_E
  | ld_C_H
  | ld_C_L
  | ld_C_indHL
  | ld_C_A
  | ld_D_B
  | ld_D_C
  | ld_D_D
  | ld_D_E
  | ld_D_H
  | ld_D_L
  | ld_D_indHL
  | ld_D_A
  | ld_E_B
  | ld_E_C
  | ld_E_D
  | ld_E_E
  | ld_E_H
  | ld_E_L
  | ld_E_indHL
  | ld_E_A
  | ld_H_B
  | ld_H_C
  | ld_H_D
  | ld_H_E
  | ld_H_H
  | ld_H_L
  | ld_H_indHL
  | ld_H_A
  | ld_L_B
  | ld_L_C
  | ld_L_D
  | ld_L_E
  | ld_L_H
  | ld_L_L
  | ld_L_indHL
  | ld_L_A
  | ld_indHL_B
  | ld_indHL_C
  | ld_indHL_D
  | ld_indHL_E
  | ld_indHL_H
  | ld_indHL_L
  | halt
  | ld_indHL_A
  | ld_A_B
  | ld_A_C
  | ld_A_D
  | ld_A_E
  | ld_A_H
  | ld_A_L
  | ld_A_indHL
  | ld_A_A
  | add_A_B
  | add_A_C
  | add_A_D
  | add_A_E
  | add_A_H
  | add_A_L
  | add_A_indHL
  | add_A_A
  | adc_A_B
  | adc_A_C
  | adc_A_D
  | adc_A_E
  | adc_A_H
  | adc_A_L
  | adc_A_indHL
  | adc_A_A
  | sub_A_B
  | sub_A_C
  | sub_A_D
  | sub_A_E
  | sub_A_H
  | sub_A_L
  | sub_A_indHL
  | sub_A_A
  | sbc_A_B
  | sbc_A_C
  | sbc_A_D
  | sbc_A_E
  | sbc_A_H
  | sbc_A_L
  | sbc_A_indHL
  | sbc_A_A
  | and_A_B
  | and_A_C
  | and_A_D
  | and_A_E
  | and_A_H
  | and_A_L
  | and_A_indHL
  | and_A_A
  | xor_A_B
  | xor_A_C
  | xor_A_D
  | xor_A_E
  | xor_A_H
  | xor_A_L
  | xor_A_indHL
  | xor_A_A
  | or_A_B
  | or_A_C
  | or_A_D
  | or_A_E
  | or_A_H
  | or_A_L
  | or_A_indHL
  | or_A_A
  | cp_A_B
  | cp_A_C
  | cp_A_D
  | cp_A_E
  | cp_A_H
  | cp_A_L
  | cp_A_indHL
  | cp_A_A
  | ret_NZ
  | pop_BC
  | push_BC
  | rst_00H
  | ret_Z
  | ret
  | rst_08H
  | ret_NC
  | pop_DE
  | illegal_D3
  | push_DE
  | rst_10H
  | ret_C
  | reti
  | illegal_DB
  | illegal_DD
  | rst_18H
  | pop_HL
  | ld_indC_A
  | illegal_E3
  | illegal_E4
  | push_HL
  | rst_20H
  | jp_HL
  | illegal_EB
  | illegal_EC
  | illegal_ED
  | rst_28H
  | pop_AF
  | ld_A_indC
  | di
  | illegal_F4
  | push_AF
  | rst_30H
  | ld_SP_HL
  | ei
  | illegal_FC
  | illegal_FD
  | rst_38H
deriving DecidableEq, Repr

end Sys2Proof
end

