-- ==== Sys2Proof/WellFormed.lean ====
section
/-!
DEFINITION. The width contract as a check on a table entry (40_step.md R144): "A model should make the contract a
well-formedness check on the table and prove it once." An `Instr` is one row of the table with its operand field, so
an instruction is well formed when the entry of its opcode is (`Instr.wellFormed`, Decode.lean).
-/
namespace Sys2Proof

/-- Width of the value a Location holds, in bits (40_step.md R134). -/
def Loc.width : Loc → Nat
  | .reg8 _ | .indByte _ | .indC | .indHLInc | .indHLDec | .imm8 | .immIndByte8 | .immIndByte16 => 8
  | .reg16 _ | .imm16 | .indWord _ | .immIndWord8 | .immIndWord16 => 16

/-- The `writes` column of 40_step.md R134: everything but the immediates (R140). -/
def Loc.writable : Loc → Bool
  | .imm8 | .imm16 => false
  | .reg8 _ | .reg16 _ | .indByte _ | .indC | .indHLInc | .indHLDec | .immIndByte8 | .immIndByte16
  | .indWord _ | .immIndWord8 | .immIndWord16 => true

/-- The format whose operand field a Location reads, if it reads one (40_step.md R140 to R143). -/
def Loc.needsFormat : Loc → Option Format
  | .imm8 | .immIndByte8 | .immIndWord8 => some .OP_D8
  | .imm16 | .immIndByte16 | .immIndWord16 => some .OP_D16
  | .reg8 _ | .reg16 _ | .indByte _ | .indC | .indHLInc | .indHLDec | .indWord _ => none

/-- How many operand Locations an Action takes. -/
def Action.arity : Action → Nat
  | .nop | .cpl | .ccf | .unimplemented | .illegal => 0
  | .jp | .inc | .dec | .inc16 | .dec16 => 1
  | .ld | .ld16 | .xor | .add | .add16 | .adc | .sub | .sbc | .and | .or | .cp => 2

/-- The width of every operand of an Action (40_step.md R144); 0 where it takes none. -/
def Action.operandWidth : Action → Nat
  | .ld | .inc | .dec | .xor | .add | .adc | .sub | .sbc | .and | .or | .cp => 8
  | .ld16 | .inc16 | .dec16 | .jp | .add16 => 16
  | .nop | .cpl | .ccf | .unimplemented | .illegal => 0

/-- Whether the first operand of an Action is a destination: for `CP` too, whose rows name `destination Reg8(A)`
(48_alu_unhandled.md R432 to R439, R446). -/
def Action.hasDestination : Action → Bool
  | .ld | .ld16 | .inc | .dec | .inc16 | .dec16 | .xor | .add | .add16 | .adc | .sub | .sbc | .and | .or | .cp => true
  | .nop | .jp | .cpl | .ccf | .unimplemented | .illegal => false

/-- The Action has as many operands as it takes. -/
def Entry.arityOk (e : Entry) : Bool := e.operands.length == e.action.arity

/-- "An 8-bit Action takes only 8-bit Locations; a 16-bit Action takes only 16-bit Locations" (40_step.md R144). -/
def Entry.widthsOk (e : Entry) : Bool := e.operands.all fun l => l.width == e.action.operandWidth

/-- "A destination is never `Imm8` or `Imm16`" (40_step.md R144). -/
def Entry.destinationOk (e : Entry) : Bool :=
  !e.action.hasDestination || (e.operands.take 1).all Loc.writable

/-- An operand that reads the operand field needs the format that has it (30_encoding.md R101). -/
def Entry.formatOk (e : Entry) : Bool :=
  e.operands.all fun l => match l.needsFormat with
    | none => true
    | some f => f == e.format

/-- A condition stands with `JP` and with nothing else (40_step.md R147). -/
def Entry.condOk (e : Entry) : Bool := e.cond.isSome == (e.action == .jp)

/-- The width contract of 40_step.md R144 on one table entry. -/
def Entry.wellFormed (e : Entry) : Bool :=
  e.arityOk && e.widthsOk && e.destinationOk && e.formatOk && e.condOk

end Sys2Proof
end

