-- ==== Sys2Proof/Decode.lean ====
section
/-!
DEFINITION. The opcode table (30_encoding.md section 6), the decoder (R106) and the encoder. The table is looked up
by the whole opcode byte, the length comes from the entry and from nothing else (R108).
The pairing of bytes with rows is the spec's own choice D1 to D3 (notes/assumptions/1.md, 2.md).
-/
namespace Sys2Proof

/-- `pack(hi, lo)` (00_scope.md R8). -/
def pack (hi lo : Byte) : Word := hi ++ lo

/-- `unpack(v) = (v[15:8], v[7:0])` (00_scope.md R8). -/
def unpack (v : Word) : Byte × Byte := (v.extractLsb' 8 8, v.extractLsb' 0 8)

/-- `zext_16(v)` (00_scope.md R7). -/
def zext16 (v : Byte) : Word := v.setWidth 16

/-- The length of a format in bytes (30_encoding.md R101). -/
def Format.length : Format → Nat
  | .OP => 1
  | .OP_D8 => 2
  | .OP_D16 => 3

/-- Entries 0x00 to 0x0F of the opcode table. -/
def opcodeRow0 : List Entry := [
  ⟨.nop, none, [], .OP⟩,  -- 0x00 NOP
  ⟨.ld16, none, [.reg16 .BC, .imm16], .OP_D16⟩,  -- 0x01 LD BC,d16
  ⟨.ld, none, [.indByte .BC, .reg8 .A], .OP⟩,  -- 0x02 LD (BC),A
  ⟨.inc16, none, [.reg16 .BC], .OP⟩,  -- 0x03 INC BC
  ⟨.inc, none, [.reg8 .B], .OP⟩,  -- 0x04 INC B
  ⟨.dec, none, [.reg8 .B], .OP⟩,  -- 0x05 DEC B
  ⟨.ld, none, [.reg8 .B, .imm8], .OP_D8⟩,  -- 0x06 LD B,d8
  ⟨.unimplemented, none, [], .OP⟩,  -- 0x07 RLCA
  ⟨.unimplemented, none, [], .OP_D16⟩,  -- 0x08 LD (a16),SP
  ⟨.add16, none, [.reg16 .HL, .reg16 .BC], .OP⟩,  -- 0x09 ADD HL,BC
  ⟨.ld, none, [.reg8 .A, .indByte .BC], .OP⟩,  -- 0x0A LD A,(BC)
  ⟨.dec16, none, [.reg16 .BC], .OP⟩,  -- 0x0B DEC BC
  ⟨.inc, none, [.reg8 .C], .OP⟩,  -- 0x0C INC C
  ⟨.dec, none, [.reg8 .C], .OP⟩,  -- 0x0D DEC C
  ⟨.ld, none, [.reg8 .C, .imm8], .OP_D8⟩,  -- 0x0E LD C,d8
  ⟨.unimplemented, none, [], .OP⟩  -- 0x0F RRCA
]

/-- Entries 0x10 to 0x1F of the opcode table. -/
def opcodeRow1 : List Entry := [
  ⟨.unimplemented, none, [], .OP_D8⟩,  -- 0x10 STOP
  ⟨.ld16, none, [.reg16 .DE, .imm16], .OP_D16⟩,  -- 0x11 LD DE,d16
  ⟨.ld, none, [.indByte .DE, .reg8 .A], .OP⟩,  -- 0x12 LD (DE),A
  ⟨.inc16, none, [.reg16 .DE], .OP⟩,  -- 0x13 INC DE
  ⟨.inc, none, [.reg8 .D], .OP⟩,  -- 0x14 INC D
  ⟨.dec, none, [.reg8 .D], .OP⟩,  -- 0x15 DEC D
  ⟨.ld, none, [.reg8 .D, .imm8], .OP_D8⟩,  -- 0x16 LD D,d8
  ⟨.unimplemented, none, [], .OP⟩,  -- 0x17 RLA
  ⟨.unimplemented, none, [], .OP_D8⟩,  -- 0x18 JR r8
  ⟨.add16, none, [.reg16 .HL, .reg16 .DE], .OP⟩,  -- 0x19 ADD HL,DE
  ⟨.ld, none, [.reg8 .A, .indByte .DE], .OP⟩,  -- 0x1A LD A,(DE)
  ⟨.dec16, none, [.reg16 .DE], .OP⟩,  -- 0x1B DEC DE
  ⟨.inc, none, [.reg8 .E], .OP⟩,  -- 0x1C INC E
  ⟨.dec, none, [.reg8 .E], .OP⟩,  -- 0x1D DEC E
  ⟨.ld, none, [.reg8 .E, .imm8], .OP_D8⟩,  -- 0x1E LD E,d8
  ⟨.unimplemented, none, [], .OP⟩  -- 0x1F RRA
]

/-- Entries 0x20 to 0x2F of the opcode table. -/
def opcodeRow2 : List Entry := [
  ⟨.unimplemented, none, [], .OP_D8⟩,  -- 0x20 JR NZ,r8
  ⟨.ld16, none, [.reg16 .HL, .imm16], .OP_D16⟩,  -- 0x21 LD HL,d16
  ⟨.ld, none, [.indHLInc, .reg8 .A], .OP⟩,  -- 0x22 LD (HL+),A
  ⟨.inc16, none, [.reg16 .HL], .OP⟩,  -- 0x23 INC HL
  ⟨.inc, none, [.reg8 .H], .OP⟩,  -- 0x24 INC H
  ⟨.dec, none, [.reg8 .H], .OP⟩,  -- 0x25 DEC H
  ⟨.ld, none, [.reg8 .H, .imm8], .OP_D8⟩,  -- 0x26 LD H,d8
  ⟨.unimplemented, none, [], .OP⟩,  -- 0x27 DAA
  ⟨.unimplemented, none, [], .OP_D8⟩,  -- 0x28 JR Z,r8
  ⟨.add16, none, [.reg16 .HL, .reg16 .HL], .OP⟩,  -- 0x29 ADD HL,HL
  ⟨.ld, none, [.reg8 .A, .indHLInc], .OP⟩,  -- 0x2A LD A,(HL+)
  ⟨.dec16, none, [.reg16 .HL], .OP⟩,  -- 0x2B DEC HL
  ⟨.inc, none, [.reg8 .L], .OP⟩,  -- 0x2C INC L
  ⟨.dec, none, [.reg8 .L], .OP⟩,  -- 0x2D DEC L
  ⟨.ld, none, [.reg8 .L, .imm8], .OP_D8⟩,  -- 0x2E LD L,d8
  ⟨.cpl, none, [], .OP⟩  -- 0x2F CPL
]

/-- Entries 0x30 to 0x3F of the opcode table. -/
def opcodeRow3 : List Entry := [
  ⟨.unimplemented, none, [], .OP_D8⟩,  -- 0x30 JR NC,r8
  ⟨.unimplemented, none, [], .OP_D16⟩,  -- 0x31 LD SP,d16
  ⟨.ld, none, [.indHLDec, .reg8 .A], .OP⟩,  -- 0x32 LD (HL-),A
  ⟨.unimplemented, none, [], .OP⟩,  -- 0x33 INC SP
  ⟨.inc, none, [.indByte .HL], .OP⟩,  -- 0x34 INC (HL)
  ⟨.dec, none, [.indByte .HL], .OP⟩,  -- 0x35 DEC (HL)
  ⟨.ld, none, [.indByte .HL, .imm8], .OP_D8⟩,  -- 0x36 LD (HL),d8
  ⟨.unimplemented, none, [], .OP⟩,  -- 0x37 SCF
  ⟨.unimplemented, none, [], .OP_D8⟩,  -- 0x38 JR C,r8
  ⟨.unimplemented, none, [], .OP⟩,  -- 0x39 ADD HL,SP
  ⟨.ld, none, [.reg8 .A, .indHLDec], .OP⟩,  -- 0x3A LD A,(HL-)
  ⟨.unimplemented, none, [], .OP⟩,  -- 0x3B DEC SP
  ⟨.inc, none, [.reg8 .A], .OP⟩,  -- 0x3C INC A
  ⟨.dec, none, [.reg8 .A], .OP⟩,  -- 0x3D DEC A
  ⟨.ld, none, [.reg8 .A, .imm8], .OP_D8⟩,  -- 0x3E LD A,d8
  ⟨.ccf, none, [], .OP⟩  -- 0x3F CCF
]

/-- Entries 0x40 to 0x4F of the opcode table. -/
def opcodeRow4 : List Entry := [
  ⟨.ld, none, [.reg8 .B, .reg8 .B], .OP⟩,  -- 0x40 LD B,B
  ⟨.ld, none, [.reg8 .B, .reg8 .C], .OP⟩,  -- 0x41 LD B,C
  ⟨.ld, none, [.reg8 .B, .reg8 .D], .OP⟩,  -- 0x42 LD B,D
  ⟨.ld, none, [.reg8 .B, .reg8 .E], .OP⟩,  -- 0x43 LD B,E
  ⟨.ld, none, [.reg8 .B, .reg8 .H], .OP⟩,  -- 0x44 LD B,H
  ⟨.ld, none, [.reg8 .B, .reg8 .L], .OP⟩,  -- 0x45 LD B,L
  ⟨.ld, none, [.reg8 .B, .indByte .HL], .OP⟩,  -- 0x46 LD B,(HL)
  ⟨.ld, none, [.reg8 .B, .reg8 .A], .OP⟩,  -- 0x47 LD B,A
  ⟨.ld, none, [.reg8 .C, .reg8 .B], .OP⟩,  -- 0x48 LD C,B
  ⟨.ld, none, [.reg8 .C, .reg8 .C], .OP⟩,  -- 0x49 LD C,C
  ⟨.ld, none, [.reg8 .C, .reg8 .D], .OP⟩,  -- 0x4A LD C,D
  ⟨.ld, none, [.reg8 .C, .reg8 .E], .OP⟩,  -- 0x4B LD C,E
  ⟨.ld, none, [.reg8 .C, .reg8 .H], .OP⟩,  -- 0x4C LD C,H
  ⟨.ld, none, [.reg8 .C, .reg8 .L], .OP⟩,  -- 0x4D LD C,L
  ⟨.ld, none, [.reg8 .C, .indByte .HL], .OP⟩,  -- 0x4E LD C,(HL)
  ⟨.ld, none, [.reg8 .C, .reg8 .A], .OP⟩  -- 0x4F LD C,A
]

/-- Entries 0x50 to 0x5F of the opcode table. -/
def opcodeRow5 : List Entry := [
  ⟨.ld, none, [.reg8 .D, .reg8 .B], .OP⟩,  -- 0x50 LD D,B
  ⟨.ld, none, [.reg8 .D, .reg8 .C], .OP⟩,  -- 0x51 LD D,C
  ⟨.ld, none, [.reg8 .D, .reg8 .D], .OP⟩,  -- 0x52 LD D,D
  ⟨.ld, none, [.reg8 .D, .reg8 .E], .OP⟩,  -- 0x53 LD D,E
  ⟨.ld, none, [.reg8 .D, .reg8 .H], .OP⟩,  -- 0x54 LD D,H
  ⟨.ld, none, [.reg8 .D, .reg8 .L], .OP⟩,  -- 0x55 LD D,L
  ⟨.ld, none, [.reg8 .D, .indByte .HL], .OP⟩,  -- 0x56 LD D,(HL)
  ⟨.ld, none, [.reg8 .D, .reg8 .A], .OP⟩,  -- 0x57 LD D,A
  ⟨.ld, none, [.reg8 .E, .reg8 .B], .OP⟩,  -- 0x58 LD E,B
  ⟨.ld, none, [.reg8 .E, .reg8 .C], .OP⟩,  -- 0x59 LD E,C
  ⟨.ld, none, [.reg8 .E, .reg8 .D], .OP⟩,  -- 0x5A LD E,D
  ⟨.ld, none, [.reg8 .E, .reg8 .E], .OP⟩,  -- 0x5B LD E,E
  ⟨.ld, none, [.reg8 .E, .reg8 .H], .OP⟩,  -- 0x5C LD E,H
  ⟨.ld, none, [.reg8 .E, .reg8 .L], .OP⟩,  -- 0x5D LD E,L
  ⟨.ld, none, [.reg8 .E, .indByte .HL], .OP⟩,  -- 0x5E LD E,(HL)
  ⟨.ld, none, [.reg8 .E, .reg8 .A], .OP⟩  -- 0x5F LD E,A
]

/-- Entries 0x60 to 0x6F of the opcode table. -/
def opcodeRow6 : List Entry := [
  ⟨.ld, none, [.reg8 .H, .reg8 .B], .OP⟩,  -- 0x60 LD H,B
  ⟨.ld, none, [.reg8 .H, .reg8 .C], .OP⟩,  -- 0x61 LD H,C
  ⟨.ld, none, [.reg8 .H, .reg8 .D], .OP⟩,  -- 0x62 LD H,D
  ⟨.ld, none, [.reg8 .H, .reg8 .E], .OP⟩,  -- 0x63 LD H,E
  ⟨.ld, none, [.reg8 .H, .reg8 .H], .OP⟩,  -- 0x64 LD H,H
  ⟨.ld, none, [.reg8 .H, .reg8 .L], .OP⟩,  -- 0x65 LD H,L
  ⟨.ld, none, [.reg8 .H, .indByte .HL], .OP⟩,  -- 0x66 LD H,(HL)
  ⟨.ld, none, [.reg8 .H, .reg8 .A], .OP⟩,  -- 0x67 LD H,A
  ⟨.ld, none, [.reg8 .L, .reg8 .B], .OP⟩,  -- 0x68 LD L,B
  ⟨.ld, none, [.reg8 .L, .reg8 .C], .OP⟩,  -- 0x69 LD L,C
  ⟨.ld, none, [.reg8 .L, .reg8 .D], .OP⟩,  -- 0x6A LD L,D
  ⟨.ld, none, [.reg8 .L, .reg8 .E], .OP⟩,  -- 0x6B LD L,E
  ⟨.ld, none, [.reg8 .L, .reg8 .H], .OP⟩,  -- 0x6C LD L,H
  ⟨.ld, none, [.reg8 .L, .reg8 .L], .OP⟩,  -- 0x6D LD L,L
  ⟨.ld, none, [.reg8 .L, .indByte .HL], .OP⟩,  -- 0x6E LD L,(HL)
  ⟨.ld, none, [.reg8 .L, .reg8 .A], .OP⟩  -- 0x6F LD L,A
]

/-- Entries 0x70 to 0x7F of the opcode table. -/
def opcodeRow7 : List Entry := [
  ⟨.ld, none, [.indByte .HL, .reg8 .B], .OP⟩,  -- 0x70 LD (HL),B
  ⟨.ld, none, [.indByte .HL, .reg8 .C], .OP⟩,  -- 0x71 LD (HL),C
  ⟨.ld, none, [.indByte .HL, .reg8 .D], .OP⟩,  -- 0x72 LD (HL),D
  ⟨.ld, none, [.indByte .HL, .reg8 .E], .OP⟩,  -- 0x73 LD (HL),E
  ⟨.ld, none, [.indByte .HL, .reg8 .H], .OP⟩,  -- 0x74 LD (HL),H
  ⟨.ld, none, [.indByte .HL, .reg8 .L], .OP⟩,  -- 0x75 LD (HL),L
  ⟨.unimplemented, none, [], .OP⟩,  -- 0x76 HALT
  ⟨.ld, none, [.indByte .HL, .reg8 .A], .OP⟩,  -- 0x77 LD (HL),A
  ⟨.ld, none, [.reg8 .A, .reg8 .B], .OP⟩,  -- 0x78 LD A,B
  ⟨.ld, none, [.reg8 .A, .reg8 .C], .OP⟩,  -- 0x79 LD A,C
  ⟨.ld, none, [.reg8 .A, .reg8 .D], .OP⟩,  -- 0x7A LD A,D
  ⟨.ld, none, [.reg8 .A, .reg8 .E], .OP⟩,  -- 0x7B LD A,E
  ⟨.ld, none, [.reg8 .A, .reg8 .H], .OP⟩,  -- 0x7C LD A,H
  ⟨.ld, none, [.reg8 .A, .reg8 .L], .OP⟩,  -- 0x7D LD A,L
  ⟨.ld, none, [.reg8 .A, .indByte .HL], .OP⟩,  -- 0x7E LD A,(HL)
  ⟨.ld, none, [.reg8 .A, .reg8 .A], .OP⟩  -- 0x7F LD A,A
]

/-- Entries 0x80 to 0x8F of the opcode table. -/
def opcodeRow8 : List Entry := [
  ⟨.add, none, [.reg8 .A, .reg8 .B], .OP⟩,  -- 0x80 ADD A,B
  ⟨.add, none, [.reg8 .A, .reg8 .C], .OP⟩,  -- 0x81 ADD A,C
  ⟨.add, none, [.reg8 .A, .reg8 .D], .OP⟩,  -- 0x82 ADD A,D
  ⟨.add, none, [.reg8 .A, .reg8 .E], .OP⟩,  -- 0x83 ADD A,E
  ⟨.add, none, [.reg8 .A, .reg8 .H], .OP⟩,  -- 0x84 ADD A,H
  ⟨.add, none, [.reg8 .A, .reg8 .L], .OP⟩,  -- 0x85 ADD A,L
  ⟨.add, none, [.reg8 .A, .indByte .HL], .OP⟩,  -- 0x86 ADD A,(HL)
  ⟨.add, none, [.reg8 .A, .reg8 .A], .OP⟩,  -- 0x87 ADD A,A
  ⟨.adc, none, [.reg8 .A, .reg8 .B], .OP⟩,  -- 0x88 ADC A,B
  ⟨.adc, none, [.reg8 .A, .reg8 .C], .OP⟩,  -- 0x89 ADC A,C
  ⟨.adc, none, [.reg8 .A, .reg8 .D], .OP⟩,  -- 0x8A ADC A,D
  ⟨.adc, none, [.reg8 .A, .reg8 .E], .OP⟩,  -- 0x8B ADC A,E
  ⟨.adc, none, [.reg8 .A, .reg8 .H], .OP⟩,  -- 0x8C ADC A,H
  ⟨.adc, none, [.reg8 .A, .reg8 .L], .OP⟩,  -- 0x8D ADC A,L
  ⟨.adc, none, [.reg8 .A, .indByte .HL], .OP⟩,  -- 0x8E ADC A,(HL)
  ⟨.adc, none, [.reg8 .A, .reg8 .A], .OP⟩  -- 0x8F ADC A,A
]

/-- Entries 0x90 to 0x9F of the opcode table. -/
def opcodeRow9 : List Entry := [
  ⟨.sub, none, [.reg8 .A, .reg8 .B], .OP⟩,  -- 0x90 SUB A,B
  ⟨.sub, none, [.reg8 .A, .reg8 .C], .OP⟩,  -- 0x91 SUB A,C
  ⟨.sub, none, [.reg8 .A, .reg8 .D], .OP⟩,  -- 0x92 SUB A,D
  ⟨.sub, none, [.reg8 .A, .reg8 .E], .OP⟩,  -- 0x93 SUB A,E
  ⟨.sub, none, [.reg8 .A, .reg8 .H], .OP⟩,  -- 0x94 SUB A,H
  ⟨.sub, none, [.reg8 .A, .reg8 .L], .OP⟩,  -- 0x95 SUB A,L
  ⟨.sub, none, [.reg8 .A, .indByte .HL], .OP⟩,  -- 0x96 SUB A,(HL)
  ⟨.sub, none, [.reg8 .A, .reg8 .A], .OP⟩,  -- 0x97 SUB A,A
  ⟨.sbc, none, [.reg8 .A, .reg8 .B], .OP⟩,  -- 0x98 SBC A,B
  ⟨.sbc, none, [.reg8 .A, .reg8 .C], .OP⟩,  -- 0x99 SBC A,C
  ⟨.sbc, none, [.reg8 .A, .reg8 .D], .OP⟩,  -- 0x9A SBC A,D
  ⟨.sbc, none, [.reg8 .A, .reg8 .E], .OP⟩,  -- 0x9B SBC A,E
  ⟨.sbc, none, [.reg8 .A, .reg8 .H], .OP⟩,  -- 0x9C SBC A,H
  ⟨.sbc, none, [.reg8 .A, .reg8 .L], .OP⟩,  -- 0x9D SBC A,L
  ⟨.sbc, none, [.reg8 .A, .indByte .HL], .OP⟩,  -- 0x9E SBC A,(HL)
  ⟨.sbc, none, [.reg8 .A, .reg8 .A], .OP⟩  -- 0x9F SBC A,A
]

/-- Entries 0xA0 to 0xAF of the opcode table. -/
def opcodeRowA : List Entry := [
  ⟨.and, none, [.reg8 .A, .reg8 .B], .OP⟩,  -- 0xA0 AND A,B
  ⟨.and, none, [.reg8 .A, .reg8 .C], .OP⟩,  -- 0xA1 AND A,C
  ⟨.and, none, [.reg8 .A, .reg8 .D], .OP⟩,  -- 0xA2 AND A,D
  ⟨.and, none, [.reg8 .A, .reg8 .E], .OP⟩,  -- 0xA3 AND A,E
  ⟨.and, none, [.reg8 .A, .reg8 .H], .OP⟩,  -- 0xA4 AND A,H
  ⟨.and, none, [.reg8 .A, .reg8 .L], .OP⟩,  -- 0xA5 AND A,L
  ⟨.and, none, [.reg8 .A, .indByte .HL], .OP⟩,  -- 0xA6 AND A,(HL)
  ⟨.and, none, [.reg8 .A, .reg8 .A], .OP⟩,  -- 0xA7 AND A,A
  ⟨.xor, none, [.reg8 .A, .reg8 .B], .OP⟩,  -- 0xA8 XOR A,B
  ⟨.xor, none, [.reg8 .A, .reg8 .C], .OP⟩,  -- 0xA9 XOR A,C
  ⟨.xor, none, [.reg8 .A, .reg8 .D], .OP⟩,  -- 0xAA XOR A,D
  ⟨.xor, none, [.reg8 .A, .reg8 .E], .OP⟩,  -- 0xAB XOR A,E
  ⟨.xor, none, [.reg8 .A, .reg8 .H], .OP⟩,  -- 0xAC XOR A,H
  ⟨.xor, none, [.reg8 .A, .reg8 .L], .OP⟩,  -- 0xAD XOR A,L
  ⟨.xor, none, [.reg8 .A, .indByte .HL], .OP⟩,  -- 0xAE XOR A,(HL)
  ⟨.xor, none, [.reg8 .A, .reg8 .A], .OP⟩  -- 0xAF XOR A,A
]

/-- Entries 0xB0 to 0xBF of the opcode table. -/
def opcodeRowB : List Entry := [
  ⟨.or, none, [.reg8 .A, .reg8 .B], .OP⟩,  -- 0xB0 OR A,B
  ⟨.or, none, [.reg8 .A, .reg8 .C], .OP⟩,  -- 0xB1 OR A,C
  ⟨.or, none, [.reg8 .A, .reg8 .D], .OP⟩,  -- 0xB2 OR A,D
  ⟨.or, none, [.reg8 .A, .reg8 .E], .OP⟩,  -- 0xB3 OR A,E
  ⟨.or, none, [.reg8 .A, .reg8 .H], .OP⟩,  -- 0xB4 OR A,H
  ⟨.or, none, [.reg8 .A, .reg8 .L], .OP⟩,  -- 0xB5 OR A,L
  ⟨.or, none, [.reg8 .A, .indByte .HL], .OP⟩,  -- 0xB6 OR A,(HL)
  ⟨.or, none, [.reg8 .A, .reg8 .A], .OP⟩,  -- 0xB7 OR A,A
  ⟨.cp, none, [.reg8 .A, .reg8 .B], .OP⟩,  -- 0xB8 CP A,B
  ⟨.cp, none, [.reg8 .A, .reg8 .C], .OP⟩,  -- 0xB9 CP A,C
  ⟨.cp, none, [.reg8 .A, .reg8 .D], .OP⟩,  -- 0xBA CP A,D
  ⟨.cp, none, [.reg8 .A, .reg8 .E], .OP⟩,  -- 0xBB CP A,E
  ⟨.cp, none, [.reg8 .A, .reg8 .H], .OP⟩,  -- 0xBC CP A,H
  ⟨.cp, none, [.reg8 .A, .reg8 .L], .OP⟩,  -- 0xBD CP A,L
  ⟨.cp, none, [.reg8 .A, .indByte .HL], .OP⟩,  -- 0xBE CP A,(HL)
  ⟨.cp, none, [.reg8 .A, .reg8 .A], .OP⟩  -- 0xBF CP A,A
]

/-- Entries 0xC0 to 0xCF of the opcode table. -/
def opcodeRowC : List Entry := [
  ⟨.unimplemented, none, [], .OP⟩,  -- 0xC0 RET NZ
  ⟨.unimplemented, none, [], .OP⟩,  -- 0xC1 POP BC
  ⟨.jp, some .NZ, [.imm16], .OP_D16⟩,  -- 0xC2 JP NZ,a16
  ⟨.jp, some .always, [.imm16], .OP_D16⟩,  -- 0xC3 JP a16
  ⟨.unimplemented, none, [], .OP_D16⟩,  -- 0xC4 CALL NZ,a16
  ⟨.unimplemented, none, [], .OP⟩,  -- 0xC5 PUSH BC
  ⟨.add, none, [.reg8 .A, .imm8], .OP_D8⟩,  -- 0xC6 ADD A,d8
  ⟨.unimplemented, none, [], .OP⟩,  -- 0xC7 RST 00H
  ⟨.unimplemented, none, [], .OP⟩,  -- 0xC8 RET Z
  ⟨.unimplemented, none, [], .OP⟩,  -- 0xC9 RET
  ⟨.jp, some .Z, [.imm16], .OP_D16⟩,  -- 0xCA JP Z,a16
  ⟨.unimplemented, none, [], .OP_D8⟩,  -- 0xCB PREFIX CB
  ⟨.unimplemented, none, [], .OP_D16⟩,  -- 0xCC CALL Z,a16
  ⟨.unimplemented, none, [], .OP_D16⟩,  -- 0xCD CALL a16
  ⟨.adc, none, [.reg8 .A, .imm8], .OP_D8⟩,  -- 0xCE ADC A,d8
  ⟨.unimplemented, none, [], .OP⟩  -- 0xCF RST 08H
]

/-- Entries 0xD0 to 0xDF of the opcode table. -/
def opcodeRowD : List Entry := [
  ⟨.unimplemented, none, [], .OP⟩,  -- 0xD0 RET NC
  ⟨.unimplemented, none, [], .OP⟩,  -- 0xD1 POP DE
  ⟨.jp, some .NC, [.imm16], .OP_D16⟩,  -- 0xD2 JP NC,a16
  ⟨.illegal, none, [], .OP⟩,  -- 0xD3 ILLEGAL_D3
  ⟨.unimplemented, none, [], .OP_D16⟩,  -- 0xD4 CALL NC,a16
  ⟨.unimplemented, none, [], .OP⟩,  -- 0xD5 PUSH DE
  ⟨.sub, none, [.reg8 .A, .imm8], .OP_D8⟩,  -- 0xD6 SUB A,d8
  ⟨.unimplemented, none, [], .OP⟩,  -- 0xD7 RST 10H
  ⟨.unimplemented, none, [], .OP⟩,  -- 0xD8 RET C
  ⟨.unimplemented, none, [], .OP⟩,  -- 0xD9 RETI
  ⟨.jp, some .C, [.imm16], .OP_D16⟩,  -- 0xDA JP C,a16
  ⟨.illegal, none, [], .OP⟩,  -- 0xDB ILLEGAL_DB
  ⟨.unimplemented, none, [], .OP_D16⟩,  -- 0xDC CALL C,a16
  ⟨.illegal, none, [], .OP⟩,  -- 0xDD ILLEGAL_DD
  ⟨.sbc, none, [.reg8 .A, .imm8], .OP_D8⟩,  -- 0xDE SBC A,d8
  ⟨.unimplemented, none, [], .OP⟩  -- 0xDF RST 18H
]

/-- Entries 0xE0 to 0xEF of the opcode table. -/
def opcodeRowE : List Entry := [
  ⟨.ld, none, [.immIndByte8, .reg8 .A], .OP_D8⟩,  -- 0xE0 LDH (a8),A
  ⟨.unimplemented, none, [], .OP⟩,  -- 0xE1 POP HL
  ⟨.ld, none, [.indC, .reg8 .A], .OP⟩,  -- 0xE2 LD (C),A
  ⟨.illegal, none, [], .OP⟩,  -- 0xE3 ILLEGAL_E3
  ⟨.illegal, none, [], .OP⟩,  -- 0xE4 ILLEGAL_E4
  ⟨.unimplemented, none, [], .OP⟩,  -- 0xE5 PUSH HL
  ⟨.and, none, [.reg8 .A, .imm8], .OP_D8⟩,  -- 0xE6 AND A,d8
  ⟨.unimplemented, none, [], .OP⟩,  -- 0xE7 RST 20H
  ⟨.unimplemented, none, [], .OP_D8⟩,  -- 0xE8 ADD SP,r8
  ⟨.jp, some .always, [.reg16 .HL], .OP⟩,  -- 0xE9 JP HL
  ⟨.ld, none, [.immIndByte16, .reg8 .A], .OP_D16⟩,  -- 0xEA LD (a16),A
  ⟨.illegal, none, [], .OP⟩,  -- 0xEB ILLEGAL_EB
  ⟨.illegal, none, [], .OP⟩,  -- 0xEC ILLEGAL_EC
  ⟨.illegal, none, [], .OP⟩,  -- 0xED ILLEGAL_ED
  ⟨.xor, none, [.reg8 .A, .imm8], .OP_D8⟩,  -- 0xEE XOR A,d8
  ⟨.unimplemented, none, [], .OP⟩  -- 0xEF RST 28H
]

/-- Entries 0xF0 to 0xFF of the opcode table. -/
def opcodeRowF : List Entry := [
  ⟨.ld, none, [.reg8 .A, .immIndByte8], .OP_D8⟩,  -- 0xF0 LDH A,(a8)
  ⟨.unimplemented, none, [], .OP⟩,  -- 0xF1 POP AF
  ⟨.ld, none, [.reg8 .A, .indC], .OP⟩,  -- 0xF2 LD A,(C)
  ⟨.unimplemented, none, [], .OP⟩,  -- 0xF3 DI
  ⟨.illegal, none, [], .OP⟩,  -- 0xF4 ILLEGAL_F4
  ⟨.unimplemented, none, [], .OP⟩,  -- 0xF5 PUSH AF
  ⟨.or, none, [.reg8 .A, .imm8], .OP_D8⟩,  -- 0xF6 OR A,d8
  ⟨.unimplemented, none, [], .OP⟩,  -- 0xF7 RST 30H
  ⟨.unimplemented, none, [], .OP_D8⟩,  -- 0xF8 LD HL,SP+r8
  ⟨.unimplemented, none, [], .OP⟩,  -- 0xF9 LD SP,HL
  ⟨.ld, none, [.reg8 .A, .immIndByte16], .OP_D16⟩,  -- 0xFA LD A,(a16)
  ⟨.unimplemented, none, [], .OP⟩,  -- 0xFB EI
  ⟨.illegal, none, [], .OP⟩,  -- 0xFC ILLEGAL_FC
  ⟨.illegal, none, [], .OP⟩,  -- 0xFD ILLEGAL_FD
  ⟨.cp, none, [.reg8 .A, .imm8], .OP_D8⟩,  -- 0xFE CP A,d8
  ⟨.unimplemented, none, [], .OP⟩  -- 0xFF RST 38H
]

/-- The 256 entries of the Opcode Table, indexed by opcode byte (30_encoding.md R105). -/
def opcodeTable : List Entry := List.flatten
  [opcodeRow0, opcodeRow1, opcodeRow2, opcodeRow3, opcodeRow4, opcodeRow5, opcodeRow6, opcodeRow7,
   opcodeRow8, opcodeRow9, opcodeRowA, opcodeRowB, opcodeRowC, opcodeRowD, opcodeRowE, opcodeRowF]

/-- `table[b0]` (30_encoding.md R106). "the table always has an entry for every byte value": the default of the lookup
is never used. -/
def opcodeEntry (b0 : Byte) : Entry := opcodeTable.getD b0.toNat ⟨.illegal, none, [], .OP⟩

/-- Instructions of the opcodes 0x00 to 0x0F, with the operand field at hand. -/
def instrRow0 (imm8 : Byte) (imm16 : Word) : List Instr := [
  .nop, .ld_BC_d16 imm16, .ld_indBC_A, .inc_BC,
  .inc_B, .dec_B, .ld_B_d8 imm8, .rlca,
  .ld_indA16_SP imm16, .add_HL_BC, .ld_A_indBC, .dec_BC,
  .inc_C, .dec_C, .ld_C_d8 imm8, .rrca]

/-- Instructions of the opcodes 0x10 to 0x1F, with the operand field at hand. -/
def instrRow1 (imm8 : Byte) (imm16 : Word) : List Instr := [
  .stop imm8, .ld_DE_d16 imm16, .ld_indDE_A, .inc_DE,
  .inc_D, .dec_D, .ld_D_d8 imm8, .rla,
  .jr_r8 imm8, .add_HL_DE, .ld_A_indDE, .dec_DE,
  .inc_E, .dec_E, .ld_E_d8 imm8, .rra]

/-- Instructions of the opcodes 0x20 to 0x2F, with the operand field at hand. -/
def instrRow2 (imm8 : Byte) (imm16 : Word) : List Instr := [
  .jr_NZ_r8 imm8, .ld_HL_d16 imm16, .ld_indHLinc_A, .inc_HL,
  .inc_H, .dec_H, .ld_H_d8 imm8, .daa,
  .jr_Z_r8 imm8, .add_HL_HL, .ld_A_indHLinc, .dec_HL,
  .inc_L, .dec_L, .ld_L_d8 imm8, .cpl]

/-- Instructions of the opcodes 0x30 to 0x3F, with the operand field at hand. -/
def instrRow3 (imm8 : Byte) (imm16 : Word) : List Instr := [
  .jr_NC_r8 imm8, .ld_SP_d16 imm16, .ld_indHLdec_A, .inc_SP,
  .inc_indHL, .dec_indHL, .ld_indHL_d8 imm8, .scf,
  .jr_C_r8 imm8, .add_HL_SP, .ld_A_indHLdec, .dec_SP,
  .inc_A, .dec_A, .ld_A_d8 imm8, .ccf]

/-- Instructions of the opcodes 0x40 to 0x4F, with the operand field at hand. -/
def instrRow4 (_imm8 : Byte) (_imm16 : Word) : List Instr := [
  .ld_B_B, .ld_B_C, .ld_B_D, .ld_B_E,
  .ld_B_H, .ld_B_L, .ld_B_indHL, .ld_B_A,
  .ld_C_B, .ld_C_C, .ld_C_D, .ld_C_E,
  .ld_C_H, .ld_C_L, .ld_C_indHL, .ld_C_A]

/-- Instructions of the opcodes 0x50 to 0x5F, with the operand field at hand. -/
def instrRow5 (_imm8 : Byte) (_imm16 : Word) : List Instr := [
  .ld_D_B, .ld_D_C, .ld_D_D, .ld_D_E,
  .ld_D_H, .ld_D_L, .ld_D_indHL, .ld_D_A,
  .ld_E_B, .ld_E_C, .ld_E_D, .ld_E_E,
  .ld_E_H, .ld_E_L, .ld_E_indHL, .ld_E_A]

/-- Instructions of the opcodes 0x60 to 0x6F, with the operand field at hand. -/
def instrRow6 (_imm8 : Byte) (_imm16 : Word) : List Instr := [
  .ld_H_B, .ld_H_C, .ld_H_D, .ld_H_E,
  .ld_H_H, .ld_H_L, .ld_H_indHL, .ld_H_A,
  .ld_L_B, .ld_L_C, .ld_L_D, .ld_L_E,
  .ld_L_H, .ld_L_L, .ld_L_indHL, .ld_L_A]

/-- Instructions of the opcodes 0x70 to 0x7F, with the operand field at hand. -/
def instrRow7 (_imm8 : Byte) (_imm16 : Word) : List Instr := [
  .ld_indHL_B, .ld_indHL_C, .ld_indHL_D, .ld_indHL_E,
  .ld_indHL_H, .ld_indHL_L, .halt, .ld_indHL_A,
  .ld_A_B, .ld_A_C, .ld_A_D, .ld_A_E,
  .ld_A_H, .ld_A_L, .ld_A_indHL, .ld_A_A]

/-- Instructions of the opcodes 0x80 to 0x8F, with the operand field at hand. -/
def instrRow8 (_imm8 : Byte) (_imm16 : Word) : List Instr := [
  .add_A_B, .add_A_C, .add_A_D, .add_A_E,
  .add_A_H, .add_A_L, .add_A_indHL, .add_A_A,
  .adc_A_B, .adc_A_C, .adc_A_D, .adc_A_E,
  .adc_A_H, .adc_A_L, .adc_A_indHL, .adc_A_A]

/-- Instructions of the opcodes 0x90 to 0x9F, with the operand field at hand. -/
def instrRow9 (_imm8 : Byte) (_imm16 : Word) : List Instr := [
  .sub_A_B, .sub_A_C, .sub_A_D, .sub_A_E,
  .sub_A_H, .sub_A_L, .sub_A_indHL, .sub_A_A,
  .sbc_A_B, .sbc_A_C, .sbc_A_D, .sbc_A_E,
  .sbc_A_H, .sbc_A_L, .sbc_A_indHL, .sbc_A_A]

/-- Instructions of the opcodes 0xA0 to 0xAF, with the operand field at hand. -/
def instrRowA (_imm8 : Byte) (_imm16 : Word) : List Instr := [
  .and_A_B, .and_A_C, .and_A_D, .and_A_E,
  .and_A_H, .and_A_L, .and_A_indHL, .and_A_A,
  .xor_A_B, .xor_A_C, .xor_A_D, .xor_A_E,
  .xor_A_H, .xor_A_L, .xor_A_indHL, .xor_A_A]

/-- Instructions of the opcodes 0xB0 to 0xBF, with the operand field at hand. -/
def instrRowB (_imm8 : Byte) (_imm16 : Word) : List Instr := [
  .or_A_B, .or_A_C, .or_A_D, .or_A_E,
  .or_A_H, .or_A_L, .or_A_indHL, .or_A_A,
  .cp_A_B, .cp_A_C, .cp_A_D, .cp_A_E,
  .cp_A_H, .cp_A_L, .cp_A_indHL, .cp_A_A]

/-- Instructions of the opcodes 0xC0 to 0xCF, with the operand field at hand. -/
def instrRowC (imm8 : Byte) (imm16 : Word) : List Instr := [
  .ret_NZ, .pop_BC, .jp_NZ_a16 imm16, .jp_a16 imm16,
  .call_NZ_a16 imm16, .push_BC, .add_A_d8 imm8, .rst_00H,
  .ret_Z, .ret, .jp_Z_a16 imm16, .prefix_CB imm8,
  .call_Z_a16 imm16, .call_a16 imm16, .adc_A_d8 imm8, .rst_08H]

/-- Instructions of the opcodes 0xD0 to 0xDF, with the operand field at hand. -/
def instrRowD (imm8 : Byte) (imm16 : Word) : List Instr := [
  .ret_NC, .pop_DE, .jp_NC_a16 imm16, .illegal_D3,
  .call_NC_a16 imm16, .push_DE, .sub_A_d8 imm8, .rst_10H,
  .ret_C, .reti, .jp_C_a16 imm16, .illegal_DB,
  .call_C_a16 imm16, .illegal_DD, .sbc_A_d8 imm8, .rst_18H]

/-- Instructions of the opcodes 0xE0 to 0xEF, with the operand field at hand. -/
def instrRowE (imm8 : Byte) (imm16 : Word) : List Instr := [
  .ldh_indA8_A imm8, .pop_HL, .ld_indC_A, .illegal_E3,
  .illegal_E4, .push_HL, .and_A_d8 imm8, .rst_20H,
  .add_SP_r8 imm8, .jp_HL, .ld_indA16_A imm16, .illegal_EB,
  .illegal_EC, .illegal_ED, .xor_A_d8 imm8, .rst_28H]

/-- Instructions of the opcodes 0xF0 to 0xFF, with the operand field at hand. -/
def instrRowF (imm8 : Byte) (imm16 : Word) : List Instr := [
  .ldh_A_indA8 imm8, .pop_AF, .ld_A_indC, .di,
  .illegal_F4, .push_AF, .or_A_d8 imm8, .rst_30H,
  .ld_HL_SPr8 imm8, .ld_SP_HL, .ld_A_indA16 imm16, .ei,
  .illegal_FC, .illegal_FD, .cp_A_d8 imm8, .rst_38H]

/-- The 256 instructions, indexed by opcode byte. -/
def instrTable (imm8 : Byte) (imm16 : Word) : List Instr := List.flatten
  [instrRow0 imm8 imm16, instrRow1 imm8 imm16, instrRow2 imm8 imm16, instrRow3 imm8 imm16,
   instrRow4 imm8 imm16, instrRow5 imm8 imm16, instrRow6 imm8 imm16, instrRow7 imm8 imm16,
   instrRow8 imm8 imm16, instrRow9 imm8 imm16, instrRowA imm8 imm16, instrRowB imm8 imm16,
   instrRowC imm8 imm16, instrRowD imm8 imm16, instrRowE imm8 imm16, instrRowF imm8 imm16]

/-- The instruction of an opcode byte and an operand field. -/
def instrOf (b0 imm8 : Byte) (imm16 : Word) : Instr := (instrTable imm8 imm16).getD b0.toNat .nop

/-- Why a list of bytes is not the beginning of an instruction. The machine's own fetch never meets either case:
it reads as many bytes as the entry's length says (30_encoding.md R106, notes/assumptions/19.md). -/
inductive DecodeError where
  /-- There is no byte at all. -/
  | noBytes
  /-- The entry of `opcode` has operand bytes and the list ends before the last of them. -/
  | missingOperand (opcode : Byte)
deriving DecidableEq, Repr

/-- The decoder on a list of bytes: the instruction at its head and the rest (30_encoding.md R101 to R108). -/
def decode : List Byte → Except DecodeError (Instr × List Byte)
  | [] => .error .noBytes
  | b0 :: rest =>
    match (opcodeEntry b0).format, rest with
    | .OP, rest => .ok (instrOf b0 0 0, rest)
    | .OP_D8, b1 :: rest => .ok (instrOf b0 b1 0, rest)
    | .OP_D16, b1 :: b2 :: rest => .ok (instrOf b0 0 (pack b2 b1), rest)
    | _, _ => .error (.missingOperand b0)

/-- The opcode byte of an instruction: the `match` column of spec/opcode_table.json. -/
def Instr.opcode : Instr → Byte
  | .nop => 0x00
  | .ld_BC_d16 _ => 0x01
  | .ld_indBC_A => 0x02
  | .inc_BC => 0x03
  | .inc_B => 0x04
  | .dec_B => 0x05
  | .ld_B_d8 _ => 0x06
  | .rlca => 0x07
  | .ld_indA16_SP _ => 0x08
  | .add_HL_BC => 0x09
  | .ld_A_indBC => 0x0A
  | .dec_BC => 0x0B
  | .inc_C => 0x0C
  | .dec_C => 0x0D
  | .ld_C_d8 _ => 0x0E
  | .rrca => 0x0F
  | .stop _ => 0x10
  | .ld_DE_d16 _ => 0x11
  | .ld_indDE_A => 0x12
  | .inc_DE => 0x13
  | .inc_D => 0x14
  | .dec_D => 0x15
  | .ld_D_d8 _ => 0x16
  | .rla => 0x17
  | .jr_r8 _ => 0x18
  | .add_HL_DE => 0x19
  | .ld_A_indDE => 0x1A
  | .dec_DE => 0x1B
  | .inc_E => 0x1C
  | .dec_E => 0x1D
  | .ld_E_d8 _ => 0x1E
  | .rra => 0x1F
  | .jr_NZ_r8 _ => 0x20
  | .ld_HL_d16 _ => 0x21
  | .ld_indHLinc_A => 0x22
  | .inc_HL => 0x23
  | .inc_H => 0x24
  | .dec_H => 0x25
  | .ld_H_d8 _ => 0x26
  | .daa => 0x27
  | .jr_Z_r8 _ => 0x28
  | .add_HL_HL => 0x29
  | .ld_A_indHLinc => 0x2A
  | .dec_HL => 0x2B
  | .inc_L => 0x2C
  | .dec_L => 0x2D
  | .ld_L_d8 _ => 0x2E
  | .cpl => 0x2F
  | .jr_NC_r8 _ => 0x30
  | .ld_SP_d16 _ => 0x31
  | .ld_indHLdec_A => 0x32
  | .inc_SP => 0x33
  | .inc_indHL => 0x34
  | .dec_indHL => 0x35
  | .ld_indHL_d8 _ => 0x36
  | .scf => 0x37
  | .jr_C_r8 _ => 0x38
  | .add_HL_SP => 0x39
  | .ld_A_indHLdec => 0x3A
  | .dec_SP => 0x3B
  | .inc_A => 0x3C
  | .dec_A => 0x3D
  | .ld_A_d8 _ => 0x3E
  | .ccf => 0x3F
  | .ld_B_B => 0x40
  | .ld_B_C => 0x41
  | .ld_B_D => 0x42
  | .ld_B_E => 0x43
  | .ld_B_H => 0x44
  | .ld_B_L => 0x45
  | .ld_B_indHL => 0x46
  | .ld_B_A => 0x47
  | .ld_C_B => 0x48
  | .ld_C_C => 0x49
  | .ld_C_D => 0x4A
  | .ld_C_E => 0x4B
  | .ld_C_H => 0x4C
  | .ld_C_L => 0x4D
  | .ld_C_indHL => 0x4E
  | .ld_C_A => 0x4F
  | .ld_D_B => 0x50
  | .ld_D_C => 0x51
  | .ld_D_D => 0x52
  | .ld_D_E => 0x53
  | .ld_D_H => 0x54
  | .ld_D_L => 0x55
  | .ld_D_indHL => 0x56
  | .ld_D_A => 0x57
  | .ld_E_B => 0x58
  | .ld_E_C => 0x59
  | .ld_E_D => 0x5A
  | .ld_E_E => 0x5B
  | .ld_E_H => 0x5C
  | .ld_E_L => 0x5D
  | .ld_E_indHL => 0x5E
  | .ld_E_A => 0x5F
  | .ld_H_B => 0x60
  | .ld_H_C => 0x61
  | .ld_H_D => 0x62
  | .ld_H_E => 0x63
  | .ld_H_H => 0x64
  | .ld_H_L => 0x65
  | .ld_H_indHL => 0x66
  | .ld_H_A => 0x67
  | .ld_L_B => 0x68
  | .ld_L_C => 0x69
  | .ld_L_D => 0x6A
  | .ld_L_E => 0x6B
  | .ld_L_H => 0x6C
  | .ld_L_L => 0x6D
  | .ld_L_indHL => 0x6E
  | .ld_L_A => 0x6F
  | .ld_indHL_B => 0x70
  | .ld_indHL_C => 0x71
  | .ld_indHL_D => 0x72
  | .ld_indHL_E => 0x73
  | .ld_indHL_H => 0x74
  | .ld_indHL_L => 0x75
  | .halt => 0x76
  | .ld_indHL_A => 0x77
  | .ld_A_B => 0x78
  | .ld_A_C => 0x79
  | .ld_A_D => 0x7A
  | .ld_A_E => 0x7B
  | .ld_A_H => 0x7C
  | .ld_A_L => 0x7D
  | .ld_A_indHL => 0x7E
  | .ld_A_A => 0x7F
  | .add_A_B => 0x80
  | .add_A_C => 0x81
  | .add_A_D => 0x82
  | .add_A_E => 0x83
  | .add_A_H => 0x84
  | .add_A_L => 0x85
  | .add_A_indHL => 0x86
  | .add_A_A => 0x87
  | .adc_A_B => 0x88
  | .adc_A_C => 0x89
  | .adc_A_D => 0x8A
  | .adc_A_E => 0x8B
  | .adc_A_H => 0x8C
  | .adc_A_L => 0x8D
  | .adc_A_indHL => 0x8E
  | .adc_A_A => 0x8F
  | .sub_A_B => 0x90
  | .sub_A_C => 0x91
  | .sub_A_D => 0x92
  | .sub_A_E => 0x93
  | .sub_A_H => 0x94
  | .sub_A_L => 0x95
  | .sub_A_indHL => 0x96
  | .sub_A_A => 0x97
  | .sbc_A_B => 0x98
  | .sbc_A_C => 0x99
  | .sbc_A_D => 0x9A
  | .sbc_A_E => 0x9B
  | .sbc_A_H => 0x9C
  | .sbc_A_L => 0x9D
  | .sbc_A_indHL => 0x9E
  | .sbc_A_A => 0x9F
  | .and_A_B => 0xA0
  | .and_A_C => 0xA1
  | .and_A_D => 0xA2
  | .and_A_E => 0xA3
  | .and_A_H => 0xA4
  | .and_A_L => 0xA5
  | .and_A_indHL => 0xA6
  | .and_A_A => 0xA7
  | .xor_A_B => 0xA8
  | .xor_A_C => 0xA9
  | .xor_A_D => 0xAA
  | .xor_A_E => 0xAB
  | .xor_A_H => 0xAC
  | .xor_A_L => 0xAD
  | .xor_A_indHL => 0xAE
  | .xor_A_A => 0xAF
  | .or_A_B => 0xB0
  | .or_A_C => 0xB1
  | .or_A_D => 0xB2
  | .or_A_E => 0xB3
  | .or_A_H => 0xB4
  | .or_A_L => 0xB5
  | .or_A_indHL => 0xB6
  | .or_A_A => 0xB7
  | .cp_A_B => 0xB8
  | .cp_A_C => 0xB9
  | .cp_A_D => 0xBA
  | .cp_A_E => 0xBB
  | .cp_A_H => 0xBC
  | .cp_A_L => 0xBD
  | .cp_A_indHL => 0xBE
  | .cp_A_A => 0xBF
  | .ret_NZ => 0xC0
  | .pop_BC => 0xC1
  | .jp_NZ_a16 _ => 0xC2
  | .jp_a16 _ => 0xC3
  | .call_NZ_a16 _ => 0xC4
  | .push_BC => 0xC5
  | .add_A_d8 _ => 0xC6
  | .rst_00H => 0xC7
  | .ret_Z => 0xC8
  | .ret => 0xC9
  | .jp_Z_a16 _ => 0xCA
  | .prefix_CB _ => 0xCB
  | .call_Z_a16 _ => 0xCC
  | .call_a16 _ => 0xCD
  | .adc_A_d8 _ => 0xCE
  | .rst_08H => 0xCF
  | .ret_NC => 0xD0
  | .pop_DE => 0xD1
  | .jp_NC_a16 _ => 0xD2
  | .illegal_D3 => 0xD3
  | .call_NC_a16 _ => 0xD4
  | .push_DE => 0xD5
  | .sub_A_d8 _ => 0xD6
  | .rst_10H => 0xD7
  | .ret_C => 0xD8
  | .reti => 0xD9
  | .jp_C_a16 _ => 0xDA
  | .illegal_DB => 0xDB
  | .call_C_a16 _ => 0xDC
  | .illegal_DD => 0xDD
  | .sbc_A_d8 _ => 0xDE
  | .rst_18H => 0xDF
  | .ldh_indA8_A _ => 0xE0
  | .pop_HL => 0xE1
  | .ld_indC_A => 0xE2
  | .illegal_E3 => 0xE3
  | .illegal_E4 => 0xE4
  | .push_HL => 0xE5
  | .and_A_d8 _ => 0xE6
  | .rst_20H => 0xE7
  | .add_SP_r8 _ => 0xE8
  | .jp_HL => 0xE9
  | .ld_indA16_A _ => 0xEA
  | .illegal_EB => 0xEB
  | .illegal_EC => 0xEC
  | .illegal_ED => 0xED
  | .xor_A_d8 _ => 0xEE
  | .rst_28H => 0xEF
  | .ldh_A_indA8 _ => 0xF0
  | .pop_AF => 0xF1
  | .ld_A_indC => 0xF2
  | .di => 0xF3
  | .illegal_F4 => 0xF4
  | .push_AF => 0xF5
  | .or_A_d8 _ => 0xF6
  | .rst_30H => 0xF7
  | .ld_HL_SPr8 _ => 0xF8
  | .ld_SP_HL => 0xF9
  | .ld_A_indA16 _ => 0xFA
  | .ei => 0xFB
  | .illegal_FC => 0xFC
  | .illegal_FD => 0xFD
  | .cp_A_d8 _ => 0xFE
  | .rst_38H => 0xFF

/-- The operand field of an instruction (30_encoding.md R102, R103). -/
def Instr.operand : Instr → Operand
  | .ld_B_d8 imm8 => .imm8 imm8
  | .ld_C_d8 imm8 => .imm8 imm8
  | .stop imm8 => .imm8 imm8
  | .ld_D_d8 imm8 => .imm8 imm8
  | .jr_r8 imm8 => .imm8 imm8
  | .ld_E_d8 imm8 => .imm8 imm8
  | .jr_NZ_r8 imm8 => .imm8 imm8
  | .ld_H_d8 imm8 => .imm8 imm8
  | .jr_Z_r8 imm8 => .imm8 imm8
  | .ld_L_d8 imm8 => .imm8 imm8
  | .jr_NC_r8 imm8 => .imm8 imm8
  | .ld_indHL_d8 imm8 => .imm8 imm8
  | .jr_C_r8 imm8 => .imm8 imm8
  | .ld_A_d8 imm8 => .imm8 imm8
  | .add_A_d8 imm8 => .imm8 imm8
  | .prefix_CB imm8 => .imm8 imm8
  | .adc_A_d8 imm8 => .imm8 imm8
  | .sub_A_d8 imm8 => .imm8 imm8
  | .sbc_A_d8 imm8 => .imm8 imm8
  | .ldh_indA8_A imm8 => .imm8 imm8
  | .and_A_d8 imm8 => .imm8 imm8
  | .add_SP_r8 imm8 => .imm8 imm8
  | .xor_A_d8 imm8 => .imm8 imm8
  | .ldh_A_indA8 imm8 => .imm8 imm8
  | .or_A_d8 imm8 => .imm8 imm8
  | .ld_HL_SPr8 imm8 => .imm8 imm8
  | .cp_A_d8 imm8 => .imm8 imm8
  | .ld_BC_d16 imm16 => .imm16 imm16
  | .ld_indA16_SP imm16 => .imm16 imm16
  | .ld_DE_d16 imm16 => .imm16 imm16
  | .ld_HL_d16 imm16 => .imm16 imm16
  | .ld_SP_d16 imm16 => .imm16 imm16
  | .jp_NZ_a16 imm16 => .imm16 imm16
  | .jp_a16 imm16 => .imm16 imm16
  | .call_NZ_a16 imm16 => .imm16 imm16
  | .jp_Z_a16 imm16 => .imm16 imm16
  | .call_Z_a16 imm16 => .imm16 imm16
  | .call_a16 imm16 => .imm16 imm16
  | .jp_NC_a16 imm16 => .imm16 imm16
  | .call_NC_a16 imm16 => .imm16 imm16
  | .jp_C_a16 imm16 => .imm16 imm16
  | .call_C_a16 imm16 => .imm16 imm16
  | .ld_indA16_A imm16 => .imm16 imm16
  | .ld_A_indA16 imm16 => .imm16 imm16
  | .nop | .ld_indBC_A | .inc_BC | .inc_B | .dec_B | .rlca | .add_HL_BC | .ld_A_indBC | .dec_BC | .inc_C | .dec_C
  | .rrca | .ld_indDE_A | .inc_DE | .inc_D | .dec_D | .rla | .add_HL_DE | .ld_A_indDE | .dec_DE | .inc_E | .dec_E
  | .rra | .ld_indHLinc_A | .inc_HL | .inc_H | .dec_H | .daa | .add_HL_HL | .ld_A_indHLinc | .dec_HL | .inc_L
  | .dec_L | .cpl | .ld_indHLdec_A | .inc_SP | .inc_indHL | .dec_indHL | .scf | .add_HL_SP | .ld_A_indHLdec
  | .dec_SP | .inc_A | .dec_A | .ccf | .ld_B_B | .ld_B_C | .ld_B_D | .ld_B_E | .ld_B_H | .ld_B_L | .ld_B_indHL
  | .ld_B_A | .ld_C_B | .ld_C_C | .ld_C_D | .ld_C_E | .ld_C_H | .ld_C_L | .ld_C_indHL | .ld_C_A | .ld_D_B
  | .ld_D_C | .ld_D_D | .ld_D_E | .ld_D_H | .ld_D_L | .ld_D_indHL | .ld_D_A | .ld_E_B | .ld_E_C | .ld_E_D
  | .ld_E_E | .ld_E_H | .ld_E_L | .ld_E_indHL | .ld_E_A | .ld_H_B | .ld_H_C | .ld_H_D | .ld_H_E | .ld_H_H
  | .ld_H_L | .ld_H_indHL | .ld_H_A | .ld_L_B | .ld_L_C | .ld_L_D | .ld_L_E | .ld_L_H | .ld_L_L | .ld_L_indHL
  | .ld_L_A | .ld_indHL_B | .ld_indHL_C | .ld_indHL_D | .ld_indHL_E | .ld_indHL_H | .ld_indHL_L | .halt
  | .ld_indHL_A | .ld_A_B | .ld_A_C | .ld_A_D | .ld_A_E | .ld_A_H | .ld_A_L | .ld_A_indHL | .ld_A_A | .add_A_B
  | .add_A_C | .add_A_D | .add_A_E | .add_A_H | .add_A_L | .add_A_indHL | .add_A_A | .adc_A_B | .adc_A_C
  | .adc_A_D | .adc_A_E | .adc_A_H | .adc_A_L | .adc_A_indHL | .adc_A_A | .sub_A_B | .sub_A_C | .sub_A_D
  | .sub_A_E | .sub_A_H | .sub_A_L | .sub_A_indHL | .sub_A_A | .sbc_A_B | .sbc_A_C | .sbc_A_D | .sbc_A_E
  | .sbc_A_H | .sbc_A_L | .sbc_A_indHL | .sbc_A_A | .and_A_B | .and_A_C | .and_A_D | .and_A_E | .and_A_H
  | .and_A_L | .and_A_indHL | .and_A_A | .xor_A_B | .xor_A_C | .xor_A_D | .xor_A_E | .xor_A_H | .xor_A_L
  | .xor_A_indHL | .xor_A_A | .or_A_B | .or_A_C | .or_A_D | .or_A_E | .or_A_H | .or_A_L | .or_A_indHL | .or_A_A
  | .cp_A_B | .cp_A_C | .cp_A_D | .cp_A_E | .cp_A_H | .cp_A_L | .cp_A_indHL | .cp_A_A | .ret_NZ | .pop_BC
  | .push_BC | .rst_00H | .ret_Z | .ret | .rst_08H | .ret_NC | .pop_DE | .illegal_D3 | .push_DE | .rst_10H
  | .ret_C | .reti | .illegal_DB | .illegal_DD | .rst_18H | .pop_HL | .ld_indC_A | .illegal_E3 | .illegal_E4
  | .push_HL | .rst_20H | .jp_HL | .illegal_EB | .illegal_EC | .illegal_ED | .rst_28H | .pop_AF | .ld_A_indC | .di
  | .illegal_F4 | .push_AF | .rst_30H | .ld_SP_HL | .ei | .illegal_FC | .illegal_FD | .rst_38H => .none

/-- The table entry of an instruction. -/
def Instr.entry (i : Instr) : Entry := opcodeEntry i.opcode

/-- `L`, the length in bytes (00_scope.md R9). -/
def Instr.length (i : Instr) : Nat := i.entry.format.length

/-- The format an operand field belongs to (30_encoding.md R101). -/
def Operand.format : Operand → Format
  | .none => .OP
  | .imm8 _ => .OP_D8
  | .imm16 _ => .OP_D16

/-- `imm8` (30_encoding.md R102), where the instruction has one. -/
def Operand.byte? : Operand → Option Byte
  | .imm8 v => some v
  | .none | .imm16 _ => Option.none

/-- `imm16` (30_encoding.md R103), where the instruction has one. -/
def Operand.word? : Operand → Option Word
  | .imm16 v => some v
  | .none | .imm8 _ => Option.none

/-- An instruction is well formed when its table entry keeps the width contract (40_step.md R144) and its operand
field is the one of the entry's format (30_encoding.md R101). -/
def Instr.wellFormed (i : Instr) : Bool :=
  i.entry.wellFormed && i.operand.format == i.entry.format

/-- The bytes of an instruction in ascending address order, opcode first, the low byte of `imm16` before its high byte
(30_encoding.md R101, R103). -/
def encode (i : Instr) : List Byte :=
  match i.operand with
  | .none => [i.opcode]
  | .imm8 v => [i.opcode, v]
  | .imm16 v => [i.opcode, (unpack v).2, (unpack v).1]

/-- The Decoded Instruction (30_encoding.md R106): Action, operands, length, cycles, raw bytes. -/
structure DecodedInstr where
  action   : Action
  cond     : Option Cond
  operands : List Loc
  length   : Nat
  cycles   : Nat
  raw      : List Byte
deriving DecidableEq, Repr

/-- The Decoded Instruction of raw bytes that begin with the opcode `b0` (30_encoding.md R106). -/
def decodedOf (b0 : Byte) (raw : List Byte) : DecodedInstr :=
  let e := opcodeEntry b0
  { action := e.action, cond := e.cond, operands := e.operands, length := e.format.length,
    cycles := Config.cycles b0, raw := raw }

/-- The Decoded Instruction of an instruction: its entry and its own bytes. -/
def Instr.decoded (i : Instr) : DecodedInstr := decodedOf i.opcode (encode i)

/-- The three bytes of an instruction word as spec/opcode_table.json numbers its bits: byte `k` is bits `8k+7 .. 8k`;
bits at `nbits` and above are 0. -/
def tableWordBytes (nbits w : Nat) : List Byte :=
  let v := w % 2 ^ nbits
  [BitVec.ofNat 8 v, BitVec.ofNat 8 (v / 2 ^ 8), BitVec.ofNat 8 (v / 2 ^ 16)]

/-- The instruction the decoder reads from a word of the opcode table. -/
def decodeTableWord (nbits w : Nat) : Option Instr :=
  match decode (tableWordBytes nbits w) with
  | .ok (i, _) => some i
  | .error _ => none

end Sys2Proof
end

