-- ==== Sys2Proof/Machine/ResetValues.lean ====
section
/-!
DEFINITION. The values reset leaves that the spec gives as parameters: the policy parameters' defaults, the default
`IO_SEED`, and what a byte of memory that nothing has written reads as.
-/
namespace Sys2Proof.Machine

/-- The defaults of the parameters a step reads (00_scope.md R6; notes/assumptions/4.md). -/
def defaultConfig : Config := { cplSetsNH := false, ccfNhValue := true, highBase := 0x0000 }

/-- The default `IO_SEED`: the 31 pairs of 70_reset_and_hazards.md R643 (notes/assumptions/11.md). -/
def ioSeedDefault : List (Word × Byte) :=
  [(0xFF05, 0x00), (0xFF06, 0x00), (0xFF07, 0x00), (0xFF10, 0x80), (0xFF11, 0xBF), (0xFF12, 0xF3), (0xFF14, 0xBF),
   (0xFF16, 0x3F), (0xFF17, 0x00), (0xFF19, 0xBF), (0xFF1A, 0x7F), (0xFF1B, 0xFF)] ++
  [(0xFF1C, 0x9F), (0xFF1E, 0xBF), (0xFF20, 0xFF), (0xFF21, 0x00), (0xFF22, 0x00), (0xFF23, 0xBF), (0xFF24, 0x77),
   (0xFF25, 0xF3), (0xFF26, 0xF1), (0xFF40, 0x91)] ++
  [(0xFF42, 0x00), (0xFF43, 0x00), (0xFF45, 0x00), (0xFF47, 0xFC), (0xFF48, 0xFF), (0xFF49, 0xFF), (0xFF4A, 0x00),
   (0xFF4B, 0x00), (0xFFFF, 0x00)]

/-- The seeded byte of a memory key, 0x00 where the list has none. -/
def seedByte (k : Nat) : List (Word × Byte) → Byte
  | [] => 0x00
  | (a, v) :: rest => if a.toNat = k then v else seedByte k rest

/-- What a key of memory that is not listed reads as. DESIGN CHOICE: 0x00 for the ROM and RAM stores
(notes/assumptions/10.md), the default `IO_SEED` in the I/O page (notes/assumptions/11.md). UNSAFE: the spec leaves
`ROM_IMAGE`, `RAM_INIT` and `IO_SEED` to arguments; only State.reset rests on this value, every other state lists
whatever bytes it holds. -/
def unlistedByte (k : Nat) : Byte := if k < 0xFF00 then 0x00 else seedByte k ioSeedDefault

end Sys2Proof.Machine
end

