-- ==== Sys2Proof/Machine/State.lean ====
section
/-!
DEFINITION. The state of the machine as plain data (10_state.md R20), the reset state (R35), and the reasons a step
can stop (60_exceptions.md R600).
-/
namespace Sys2Proof.Machine

/-- The six backing stores of the MMU (10_state.md R20, R29). -/
inductive Store where
  | rom | vram | cram | wram | oam | zram
deriving DecidableEq, Repr

/-- The bytes of the six stores as (key, byte) pairs, keys strictly rising, no pair equal to what its key reads as
unlisted. The key of offset `i` of a store is the store's first address plus `i` (20_memory.md R61). -/
abbrev Memory := List Host.Cell

/-- The whole architectural state (10_state.md R20), and beside it `cfg`, the parameters of the step, which is the
model's own field and which no step changes (notes/assumptions/4.md). -/
structure State where
  a   : Byte
  f   : Byte
  b   : Byte
  c   : Byte
  d   : Byte
  e   : Byte
  h   : Byte
  l   : Byte
  sp  : Word
  pc  : Word
  mem : Memory
  cfg : Config
deriving DecidableEq, Repr

/-- The state after `construct` (10_state.md R35, 70_reset_and_hazards.md R640), over a zeroed ROM, `RAM_INIT` all
zero and the default `IO_SEED` (`unlistedByte`; notes/assumptions/10.md, 11.md), at the default parameters. -/
def State.reset : State :=
  { a := 0x01, f := 0xB0, b := 0x00, c := 0x13, d := 0x00, e := 0xD8, h := 0x01, l := 0x4D,
    sp := 0xFFFE, pc := 0x0100, mem := [], cfg := defaultConfig }

/-- The register snapshot of a trap record (60_exceptions.md R604). -/
structure Snapshot where
  a  : Byte
  f  : Byte
  b  : Byte
  c  : Byte
  d  : Byte
  e  : Byte
  h  : Byte
  l  : Byte
  sp : Word
  pc : Word
deriving DecidableEq, Repr

/-- The three trap kinds (60_exceptions.md R600). -/
inductive TrapKind where
  | illegalOpcode | unimplementedAction | contractViolation
deriving DecidableEq, Repr

/-- The trap record of the codes 2 and 3 (60_exceptions.md R604); the kind is the constructor of `Fault`. -/
structure TrapRecord where
  opcode   : Byte
  pc       : Word
  action   : Action
  instr    : DecodedInstr
  snapshot : Snapshot
deriving DecidableEq, Repr

/-- Why a step returns an error record instead of a next state (60_exceptions.md R600). The machine is as it was
before the step (R610). -/
inductive Fault where
  /-- Code 1 (R601), raised by the eleven illegal opcodes with the opcode value and its address. The spec's own
  outcome: safe. -/
  | illegalOpcode (opcode : Byte) (pc : Word)
  /-- Code 2 (R602), raised by the 66 unhandled ALU opcodes and the 51 opcodes tagged `UNIMPLEMENTED`. The spec's own
  outcome: safe. -/
  | unimplementedAction (r : TrapRecord)
  /-- Code 3 (R603), raised by a handler on a Location of the wrong width or an immediate destination. Unreachable
  with this table: safe. -/
  | contractViolation (r : TrapRecord)
deriving DecidableEq, Repr

/-- The code of a trap kind (60_exceptions.md R600, D17). -/
def Fault.code : Fault → Nat
  | .illegalOpcode _ _ => 1
  | .unimplementedAction _ => 2
  | .contractViolation _ => 3

/-- Why the model gives a step no meaning. -/
inductive Refusal where
  /-- Raised by an arm of `exec` whose instruction has no meaning yet; no arm does. Safe: the run stops. -/
  | notModelled (mnemonic : String)
  /-- Raised by `step` when the fetched bytes do not decode; the fetch reads as many bytes as the table entry says, so
  it never happens (notes/assumptions/19.md). Safe: the run stops. -/
  | undecodable (e : DecodeError)
deriving DecidableEq, Repr

end Sys2Proof.Machine
end

