-- ==== Sys2Proof/Machine/Ops.lean ====
section
/-!
DEFINITION. The named operations over memory and registers (20_memory.md, 10_state.md), the advance of `pc`
(40_step.md R131) and taking a trap (60_exceptions.md R608). There is no return from a trap: "There is no
return-from-trap instruction" and nothing was saved (R609), so no operation stands beside `raise`.
-/
namespace Sys2Proof.Machine

/-! ### Memory by key, in canonical form -/

/-- The byte of a key. -/
def Memory.readKey : Memory → Nat → Byte
  | [], k => unlistedByte k
  | (k', v) :: m, k => if k = k' then v else Memory.readKey m k

/-- A pair in front of a memory, left out when the key reads as that byte unlisted. -/
def Memory.cons (k : Nat) (v : Byte) (m : Memory) : Memory :=
  if v = unlistedByte k then m else (k, v) :: m

/-- Write the byte of a key, keeping the keys rising and no pair equal to the unlisted byte. -/
def Memory.writeKey : Memory → Nat → Byte → Memory
  | [], k, v => Memory.cons k v []
  | (k', v') :: m, k, v =>
    if k < k' then Memory.cons k v ((k', v') :: m)
    else if k = k' then Memory.cons k v m
    else (k', v') :: Memory.writeKey m k v

/-- The keys that are bytes of a store: every address but the mirror and the unmapped range (20_memory.md R61). -/
def validKey (k : Nat) : Bool :=
  decide (k < 0xE000) || (decide (0xFE00 ≤ k) && decide (k < 0xFEA0)) || (decide (0xFF00 ≤ k) && decide (k < 0x10000))

/-- The canonical form from the key `lo` on. -/
def Memory.wfFrom : Nat → Memory → Bool
  | _, [] => true
  | lo, (k, v) :: m => decide (lo ≤ k) && validKey k && !decide (v = unlistedByte k) && Memory.wfFrom (k + 1) m

/-- The canonical form: keys of stores, strictly rising, no pair equal to what its key reads as unlisted. -/
def Memory.wf (m : Memory) : Bool := Memory.wfFrom 0 m

/-! ### The MMU -/

/-- The first address of a store's own range (20_memory.md R61). -/
def Store.base : Store → Nat
  | .rom => 0x0000
  | .vram => 0x8000
  | .cram => 0xA000
  | .wram => 0xC000
  | .oam => 0xFE00
  | .zram => 0xFF00

/-- The size of a store in bytes (10_state.md R20). -/
def Store.size : Store → Nat
  | .rom => 0x8000
  | .vram => 0x2000
  | .cram => 0x2000
  | .wram => 0x2000
  | .oam => 0x00A0
  | .zram => 0x0100

/-- `route(a)`: one store and an offset, or `none` for `Unmapped` (20_memory.md R61). -/
def route (a : Word) : Option (Store × Nat) :=
  let n := a.toNat
  if n < 0x8000 then some (.rom, n)
  else if n < 0xA000 then some (.vram, n - 0x8000)
  else if n < 0xC000 then some (.cram, n - 0xA000)
  else if n < 0xE000 then some (.wram, n - 0xC000)
  else if n < 0xFE00 then some (.wram, n - 0xE000)
  else if n < 0xFEA0 then some (.oam, n - 0xFE00)
  else if n < 0xFF00 then none
  else some (.zram, n - 0xFF00)

/-- The memory key of an address, `none` where it is unmapped. -/
def keyOf (a : Word) : Option Nat := (route a).map fun p => p.1.base + p.2

/-- `read_byte(a)` (20_memory.md R62). -/
def Memory.readByte (m : Memory) (a : Word) : Byte :=
  match keyOf a with
  | some k => m.readKey k
  | none => 0x00

/-- `write_byte(a, v)` (20_memory.md R63). -/
def Memory.writeByte (m : Memory) (a : Word) (v : Byte) : Memory :=
  match keyOf a with
  | some k => m.writeKey k v
  | none => m

/-- `read_word(a)`, little-endian, wrapping (20_memory.md R69, R71). -/
def Memory.readWord (m : Memory) (a : Word) : Word := pack (m.readByte (a + 1)) (m.readByte a)

/-- `write_word(a, v)`: the low byte at `a`, then the high byte at `a +16 1` (20_memory.md R70, R71). -/
def Memory.writeWord (m : Memory) (a v : Word) : Memory :=
  (m.writeByte a (unpack v).2).writeByte (a + 1) (unpack v).1

/-- `MemRead(a, 1)` (00_scope.md R9), and the accessor of 10_state.md R34. -/
def State.readByte (s : State) (a : Word) : Byte := s.mem.readByte a

/-- `MemWrite(a, 1, v)` (00_scope.md R9). -/
def State.writeByte (s : State) (a : Word) (v : Byte) : State := { s with mem := s.mem.writeByte a v }

/-- `MemRead(a, 2)` (00_scope.md R9). -/
def State.readWord (s : State) (a : Word) : Word := s.mem.readWord a

/-- `MemWrite(a, 2, v)` (00_scope.md R9). -/
def State.writeWord (s : State) (a v : Word) : State := { s with mem := s.mem.writeWord a v }

/-! ### Registers -/

/-- A write of `F` stores `v & 0xF0` (10_state.md R23). -/
def normF (v : Byte) : Byte := v &&& 0xF0

/-- `x[F] <- v` (10_state.md R23). -/
def State.setF (s : State) (v : Byte) : State := { s with f := normF v }

/-- `x[r]` (00_scope.md R9). -/
def State.reg8 (s : State) : Reg8 → Byte
  | .A => s.a
  | .B => s.b
  | .C => s.c
  | .D => s.d
  | .E => s.e
  | .H => s.h
  | .L => s.l

/-- `x[r] <- v` (00_scope.md R9). -/
def State.setReg8 (s : State) (r : Reg8) (v : Byte) : State :=
  match r with
  | .A => { s with a := v }
  | .B => { s with b := v }
  | .C => { s with c := v }
  | .D => { s with d := v }
  | .E => { s with e := v }
  | .H => { s with h := v }
  | .L => { s with l := v }

/-- `xp[rr]` (10_state.md R25). -/
def State.pair (s : State) : Pair → Word
  | .AF => pack s.a s.f
  | .BC => pack s.b s.c
  | .DE => pack s.d s.e
  | .HL => pack s.h s.l

/-- `xp[rr] <- v` (10_state.md R26); for `AF` the low byte passes through R23. -/
def State.setPair (s : State) (rr : Pair) (v : Word) : State :=
  match rr with
  | .AF => { s with a := (unpack v).1, f := normF (unpack v).2 }
  | .BC => { s with b := (unpack v).1, c := (unpack v).2 }
  | .DE => { s with d := (unpack v).1, e := (unpack v).2 }
  | .HL => { s with h := (unpack v).1, l := (unpack v).2 }

/-- The pair that holds an address (40_step.md R137). -/
def addrPair : AddrPair → Pair
  | .BC => .BC
  | .DE => .DE
  | .HL => .HL

/-- `pc <- t` (00_scope.md R9). -/
def State.setPc (s : State) (t : Word) : State := { s with pc := t }

/-- `pc <- pc +16 L` (40_step.md R131). -/
def advance (i : Instr) (s : State) : State := s.setPc (s.pc + BitVec.ofNat 16 i.length)

/-! ### Taking a trap -/

/-- The registers as they were when `step` was called (60_exceptions.md R604). -/
def snapshot (s : State) : Snapshot :=
  { a := s.a, f := s.f, b := s.b, c := s.c, d := s.d, e := s.e, h := s.h, l := s.l, sp := s.sp, pc := s.pc }

/-- The trap record of an instruction at the state `step` was called in (60_exceptions.md R604). -/
def trapRecord (i : Instr) (s : State) : TrapRecord :=
  { opcode := i.opcode, pc := s.pc, action := i.entry.action, instr := i.decoded, snapshot := snapshot s }

/-- `raise K(info)` (00_scope.md R9): the step returns the record and changes nothing (40_step.md R132,
60_exceptions.md R608, R610). The one operation every trap goes through. -/
def raise (k : TrapKind) (i : Instr) (s : State) : Host.Outcome State Fault Refusal :=
  match k with
  | .illegalOpcode => .fault (.illegalOpcode i.opcode s.pc)
  | .unimplementedAction => .fault (.unimplementedAction (trapRecord i s))
  | .contractViolation => .fault (.contractViolation (trapRecord i s))

end Sys2Proof.Machine
end

