-- ==== Sys2Proof/Machine/AluUnhandled.lean ====
section
/-!
DEFINITION. The unhandled ALU Actions (48_alu_unhandled.md): each traps with `UnimplementedAction` before anything is
resolved, and "a model must not supply" the arithmetic (93_implementation_defined.md U3).
-/
namespace Sys2Proof.Machine

/-- An entry of an unhandled ALU Action raises `UnimplementedAction` (48_alu_unhandled.md R380). -/
def handleUnhandled (i : Instr) (s : State) : Host.Outcome State Fault Refusal := raise .unimplementedAction i s

/-- `ADD HL,BC`, 0x09 (48_alu_unhandled.md R381). -/
def execAdd_HL_BC (s : State) : Host.Outcome State Fault Refusal :=
  handleUnhandled .add_HL_BC s

/-- `ADD HL,DE`, 0x19 (48_alu_unhandled.md R382). -/
def execAdd_HL_DE (s : State) : Host.Outcome State Fault Refusal :=
  handleUnhandled .add_HL_DE s

/-- `ADD HL,HL`, 0x29 (48_alu_unhandled.md R383). -/
def execAdd_HL_HL (s : State) : Host.Outcome State Fault Refusal :=
  handleUnhandled .add_HL_HL s

/-- `ADD A,B`, 0x80 (48_alu_unhandled.md R384). -/
def execAdd_A_B (s : State) : Host.Outcome State Fault Refusal :=
  handleUnhandled .add_A_B s

/-- `ADD A,C`, 0x81 (48_alu_unhandled.md R385). -/
def execAdd_A_C (s : State) : Host.Outcome State Fault Refusal :=
  handleUnhandled .add_A_C s

/-- `ADD A,D`, 0x82 (48_alu_unhandled.md R386). -/
def execAdd_A_D (s : State) : Host.Outcome State Fault Refusal :=
  handleUnhandled .add_A_D s

/-- `ADD A,E`, 0x83 (48_alu_unhandled.md R387). -/
def execAdd_A_E (s : State) : Host.Outcome State Fault Refusal :=
  handleUnhandled .add_A_E s

/-- `ADD A,H`, 0x84 (48_alu_unhandled.md R388). -/
def execAdd_A_H (s : State) : Host.Outcome State Fault Refusal :=
  handleUnhandled .add_A_H s

/-- `ADD A,L`, 0x85 (48_alu_unhandled.md R389). -/
def execAdd_A_L (s : State) : Host.Outcome State Fault Refusal :=
  handleUnhandled .add_A_L s

/-- `ADD A,(HL)`, 0x86 (48_alu_unhandled.md R390). -/
def execAdd_A_indHL (s : State) : Host.Outcome State Fault Refusal :=
  handleUnhandled .add_A_indHL s

/-- `ADD A,A`, 0x87 (48_alu_unhandled.md R391). -/
def execAdd_A_A (s : State) : Host.Outcome State Fault Refusal :=
  handleUnhandled .add_A_A s

/-- `ADC A,B`, 0x88 (48_alu_unhandled.md R392). -/
def execAdc_A_B (s : State) : Host.Outcome State Fault Refusal :=
  handleUnhandled .adc_A_B s

/-- `ADC A,C`, 0x89 (48_alu_unhandled.md R393). -/
def execAdc_A_C (s : State) : Host.Outcome State Fault Refusal :=
  handleUnhandled .adc_A_C s

/-- `ADC A,D`, 0x8A (48_alu_unhandled.md R394). -/
def execAdc_A_D (s : State) : Host.Outcome State Fault Refusal :=
  handleUnhandled .adc_A_D s

/-- `ADC A,E`, 0x8B (48_alu_unhandled.md R395). -/
def execAdc_A_E (s : State) : Host.Outcome State Fault Refusal :=
  handleUnhandled .adc_A_E s

/-- `ADC A,H`, 0x8C (48_alu_unhandled.md R396). -/
def execAdc_A_H (s : State) : Host.Outcome State Fault Refusal :=
  handleUnhandled .adc_A_H s

/-- `ADC A,L`, 0x8D (48_alu_unhandled.md R397). -/
def execAdc_A_L (s : State) : Host.Outcome State Fault Refusal :=
  handleUnhandled .adc_A_L s

/-- `ADC A,(HL)`, 0x8E (48_alu_unhandled.md R398). -/
def execAdc_A_indHL (s : State) : Host.Outcome State Fault Refusal :=
  handleUnhandled .adc_A_indHL s

/-- `ADC A,A`, 0x8F (48_alu_unhandled.md R399). -/
def execAdc_A_A (s : State) : Host.Outcome State Fault Refusal :=
  handleUnhandled .adc_A_A s

/-- `SUB A,B`, 0x90 (48_alu_unhandled.md R400). -/
def execSub_A_B (s : State) : Host.Outcome State Fault Refusal :=
  handleUnhandled .sub_A_B s

/-- `SUB A,C`, 0x91 (48_alu_unhandled.md R401). -/
def execSub_A_C (s : State) : Host.Outcome State Fault Refusal :=
  handleUnhandled .sub_A_C s

/-- `SUB A,D`, 0x92 (48_alu_unhandled.md R402). -/
def execSub_A_D (s : State) : Host.Outcome State Fault Refusal :=
  handleUnhandled .sub_A_D s

/-- `SUB A,E`, 0x93 (48_alu_unhandled.md R403). -/
def execSub_A_E (s : State) : Host.Outcome State Fault Refusal :=
  handleUnhandled .sub_A_E s

/-- `SUB A,H`, 0x94 (48_alu_unhandled.md R404). -/
def execSub_A_H (s : State) : Host.Outcome State Fault Refusal :=
  handleUnhandled .sub_A_H s

/-- `SUB A,L`, 0x95 (48_alu_unhandled.md R405). -/
def execSub_A_L (s : State) : Host.Outcome State Fault Refusal :=
  handleUnhandled .sub_A_L s

/-- `SUB A,(HL)`, 0x96 (48_alu_unhandled.md R406). -/
def execSub_A_indHL (s : State) : Host.Outcome State Fault Refusal :=
  handleUnhandled .sub_A_indHL s

/-- `SUB A,A`, 0x97 (48_alu_unhandled.md R407). -/
def execSub_A_A (s : State) : Host.Outcome State Fault Refusal :=
  handleUnhandled .sub_A_A s

/-- `SBC A,B`, 0x98 (48_alu_unhandled.md R408). -/
def execSbc_A_B (s : State) : Host.Outcome State Fault Refusal :=
  handleUnhandled .sbc_A_B s

/-- `SBC A,C`, 0x99 (48_alu_unhandled.md R409). -/
def execSbc_A_C (s : State) : Host.Outcome State Fault Refusal :=
  handleUnhandled .sbc_A_C s

/-- `SBC A,D`, 0x9A (48_alu_unhandled.md R410). -/
def execSbc_A_D (s : State) : Host.Outcome State Fault Refusal :=
  handleUnhandled .sbc_A_D s

/-- `SBC A,E`, 0x9B (48_alu_unhandled.md R411). -/
def execSbc_A_E (s : State) : Host.Outcome State Fault Refusal :=
  handleUnhandled .sbc_A_E s

/-- `SBC A,H`, 0x9C (48_alu_unhandled.md R412). -/
def execSbc_A_H (s : State) : Host.Outcome State Fault Refusal :=
  handleUnhandled .sbc_A_H s

/-- `SBC A,L`, 0x9D (48_alu_unhandled.md R413). -/
def execSbc_A_L (s : State) : Host.Outcome State Fault Refusal :=
  handleUnhandled .sbc_A_L s

/-- `SBC A,(HL)`, 0x9E (48_alu_unhandled.md R414). -/
def execSbc_A_indHL (s : State) : Host.Outcome State Fault Refusal :=
  handleUnhandled .sbc_A_indHL s

/-- `SBC A,A`, 0x9F (48_alu_unhandled.md R415). -/
def execSbc_A_A (s : State) : Host.Outcome State Fault Refusal :=
  handleUnhandled .sbc_A_A s

/-- `AND A,B`, 0xA0 (48_alu_unhandled.md R416). -/
def execAnd_A_B (s : State) : Host.Outcome State Fault Refusal :=
  handleUnhandled .and_A_B s

/-- `AND A,C`, 0xA1 (48_alu_unhandled.md R417). -/
def execAnd_A_C (s : State) : Host.Outcome State Fault Refusal :=
  handleUnhandled .and_A_C s

/-- `AND A,D`, 0xA2 (48_alu_unhandled.md R418). -/
def execAnd_A_D (s : State) : Host.Outcome State Fault Refusal :=
  handleUnhandled .and_A_D s

/-- `AND A,E`, 0xA3 (48_alu_unhandled.md R419). -/
def execAnd_A_E (s : State) : Host.Outcome State Fault Refusal :=
  handleUnhandled .and_A_E s

/-- `AND A,H`, 0xA4 (48_alu_unhandled.md R420). -/
def execAnd_A_H (s : State) : Host.Outcome State Fault Refusal :=
  handleUnhandled .and_A_H s

/-- `AND A,L`, 0xA5 (48_alu_unhandled.md R421). -/
def execAnd_A_L (s : State) : Host.Outcome State Fault Refusal :=
  handleUnhandled .and_A_L s

/-- `AND A,(HL)`, 0xA6 (48_alu_unhandled.md R422). -/
def execAnd_A_indHL (s : State) : Host.Outcome State Fault Refusal :=
  handleUnhandled .and_A_indHL s

/-- `AND A,A`, 0xA7 (48_alu_unhandled.md R423). -/
def execAnd_A_A (s : State) : Host.Outcome State Fault Refusal :=
  handleUnhandled .and_A_A s

/-- `OR A,B`, 0xB0 (48_alu_unhandled.md R424). -/
def execOr_A_B (s : State) : Host.Outcome State Fault Refusal :=
  handleUnhandled .or_A_B s

/-- `OR A,C`, 0xB1 (48_alu_unhandled.md R425). -/
def execOr_A_C (s : State) : Host.Outcome State Fault Refusal :=
  handleUnhandled .or_A_C s

/-- `OR A,D`, 0xB2 (48_alu_unhandled.md R426). -/
def execOr_A_D (s : State) : Host.Outcome State Fault Refusal :=
  handleUnhandled .or_A_D s

/-- `OR A,E`, 0xB3 (48_alu_unhandled.md R427). -/
def execOr_A_E (s : State) : Host.Outcome State Fault Refusal :=
  handleUnhandled .or_A_E s

/-- `OR A,H`, 0xB4 (48_alu_unhandled.md R428). -/
def execOr_A_H (s : State) : Host.Outcome State Fault Refusal :=
  handleUnhandled .or_A_H s

/-- `OR A,L`, 0xB5 (48_alu_unhandled.md R429). -/
def execOr_A_L (s : State) : Host.Outcome State Fault Refusal :=
  handleUnhandled .or_A_L s

/-- `OR A,(HL)`, 0xB6 (48_alu_unhandled.md R430). -/
def execOr_A_indHL (s : State) : Host.Outcome State Fault Refusal :=
  handleUnhandled .or_A_indHL s

/-- `OR A,A`, 0xB7 (48_alu_unhandled.md R431). -/
def execOr_A_A (s : State) : Host.Outcome State Fault Refusal :=
  handleUnhandled .or_A_A s

/-- `CP A,B`, 0xB8 (48_alu_unhandled.md R432). -/
def execCp_A_B (s : State) : Host.Outcome State Fault Refusal :=
  handleUnhandled .cp_A_B s

/-- `CP A,C`, 0xB9 (48_alu_unhandled.md R433). -/
def execCp_A_C (s : State) : Host.Outcome State Fault Refusal :=
  handleUnhandled .cp_A_C s

/-- `CP A,D`, 0xBA (48_alu_unhandled.md R434). -/
def execCp_A_D (s : State) : Host.Outcome State Fault Refusal :=
  handleUnhandled .cp_A_D s

/-- `CP A,E`, 0xBB (48_alu_unhandled.md R435). -/
def execCp_A_E (s : State) : Host.Outcome State Fault Refusal :=
  handleUnhandled .cp_A_E s

/-- `CP A,H`, 0xBC (48_alu_unhandled.md R436). -/
def execCp_A_H (s : State) : Host.Outcome State Fault Refusal :=
  handleUnhandled .cp_A_H s

/-- `CP A,L`, 0xBD (48_alu_unhandled.md R437). -/
def execCp_A_L (s : State) : Host.Outcome State Fault Refusal :=
  handleUnhandled .cp_A_L s

/-- `CP A,(HL)`, 0xBE (48_alu_unhandled.md R438). -/
def execCp_A_indHL (s : State) : Host.Outcome State Fault Refusal :=
  handleUnhandled .cp_A_indHL s

/-- `CP A,A`, 0xBF (48_alu_unhandled.md R439). -/
def execCp_A_A (s : State) : Host.Outcome State Fault Refusal :=
  handleUnhandled .cp_A_A s

/-- `ADD A,d8`, 0xC6 (48_alu_unhandled.md R440). -/
def execAdd_A_d8 (imm8 : Byte) (s : State) : Host.Outcome State Fault Refusal :=
  handleUnhandled (.add_A_d8 imm8) s

/-- `ADC A,d8`, 0xCE (48_alu_unhandled.md R441). -/
def execAdc_A_d8 (imm8 : Byte) (s : State) : Host.Outcome State Fault Refusal :=
  handleUnhandled (.adc_A_d8 imm8) s

/-- `SUB A,d8`, 0xD6 (48_alu_unhandled.md R442). -/
def execSub_A_d8 (imm8 : Byte) (s : State) : Host.Outcome State Fault Refusal :=
  handleUnhandled (.sub_A_d8 imm8) s

/-- `SBC A,d8`, 0xDE (48_alu_unhandled.md R443). -/
def execSbc_A_d8 (imm8 : Byte) (s : State) : Host.Outcome State Fault Refusal :=
  handleUnhandled (.sbc_A_d8 imm8) s

/-- `AND A,d8`, 0xE6 (48_alu_unhandled.md R444). -/
def execAnd_A_d8 (imm8 : Byte) (s : State) : Host.Outcome State Fault Refusal :=
  handleUnhandled (.and_A_d8 imm8) s

/-- `OR A,d8`, 0xF6 (48_alu_unhandled.md R445). -/
def execOr_A_d8 (imm8 : Byte) (s : State) : Host.Outcome State Fault Refusal :=
  handleUnhandled (.or_A_d8 imm8) s

/-- `CP A,d8`, 0xFE (48_alu_unhandled.md R446). -/
def execCp_A_d8 (imm8 : Byte) (s : State) : Host.Outcome State Fault Refusal :=
  handleUnhandled (.cp_A_d8 imm8) s

end Sys2Proof.Machine
end

