-- ==== Sys2Proof/Machine/Flags.lean ====
section
/-!
DEFINITION. The flag byte: its bits, the flag operations of the Register File (10_state.md R22 to R24), every flag
computation of the executing Actions (R37), and the jump conditions (40_step.md R147).
-/
namespace Sys2Proof.Machine

/-- `m(f)`: the mask of a flag (10_state.md R22, D4; notes/assumptions/3.md). -/
def flagMask : Flag → Byte
  | .Z => 0x80
  | .N => 0x40
  | .H => 0x20
  | .C => 0x10

/-- `has_flag(f)` on the flag byte (10_state.md R24). -/
def hasFlag (fb : Byte) (f : Flag) : Bool := fb &&& flagMask f != 0

/-- `set_flag(f, b)` on the flag byte (10_state.md R24). -/
def setFlag (fb : Byte) (f : Flag) (b : Bool) : Byte :=
  normF (if b then fb ||| flagMask f else fb &&& ~~~flagMask f)

/-- `flip_flag(f)` on the flag byte (10_state.md R24). -/
def flipFlag (fb : Byte) (f : Flag) : Byte := normF (fb ^^^ flagMask f)

/-- `flag(f)` (00_scope.md R9), and the accessor of 10_state.md R34. -/
def State.flag (s : State) (f : Flag) : Bool := hasFlag s.f f

/-- The flag byte after `INC` of the byte `old` (46_incdec.md R330). -/
def incFlags (fb old : Byte) : Byte :=
  setFlag (setFlag (setFlag fb .Z (old + 1 == 0x00)) .N false) .H (old == 0xFF)

/-- The flag byte after `DEC` of the byte `old` (46_incdec.md R331). -/
def decFlags (fb old : Byte) : Byte :=
  setFlag (setFlag (setFlag fb .Z (old - 1 == 0x00)) .N true) .H (old == 0x00)

/-- The flag byte after `XOR` with result `r` (47_xor.md R360). -/
def xorFlags (fb r : Byte) : Byte :=
  setFlag (setFlag (setFlag (setFlag fb .Z (r == 0x00)) .N false) .H false) .C false

/-- The flag byte after `CPL` under `CPL_SETS_NH` (45_cpl_ccf.md R320); without it `F` is not written. -/
def cplFlags (fb : Byte) : Byte := setFlag (setFlag fb .N true) .H true

/-- The flag byte after `CCF` (45_cpl_ccf.md R321). -/
def ccfFlags (cfg : Config) (fb : Byte) : Byte :=
  setFlag (setFlag (flipFlag fb .C) .N cfg.ccfNhValue) .H cfg.ccfNhValue

/-- Whether a jump condition holds of the flag byte (40_step.md R147). -/
def condHolds (c : Cond) (fb : Byte) : Bool :=
  match c with
  | .always => true
  | .Z => hasFlag fb .Z
  | .NZ => !hasFlag fb .Z
  | .C => hasFlag fb .C
  | .NC => !hasFlag fb .C

end Sys2Proof.Machine
end

