-- ==== Sys2Proof/Machine/Operands.lean ====
section
/-!
DEFINITION. The Locations of 40_step.md section 2: a Location is resolved once to a place, with the `HL+` and `HL-`
side effect (R139), and the place is then read or written at its width (R144).
-/
namespace Sys2Proof.Machine

/-- What a Location resolves to. -/
inductive Place where
  | reg8 (r : Reg8)
  | reg16 (rr : Pair)
  | byteAt (a : Word)
  | wordAt (a : Word)
  | imm8 (v : Byte)
  | imm16 (v : Word)
  | missing            -- an operand field the instruction does not have; no table entry asks for one
deriving DecidableEq, Repr

/-- `IndByte(C)`: the register widened, no base (40_step.md R138). -/
def addrC (s : State) : Word := zext16 s.c

/-- `ImmIndByte(a8)`: `HIGH_BASE +16 zext_16(imm8)` (40_step.md R141). -/
def addrA8 (s : State) (v : Byte) : Word := s.cfg.highBase + zext16 v

/-- The place an `imm8` field gives, by `f`. -/
def immByte (i : Instr) (f : Byte → Place) : Place :=
  match i.operand.byte? with
  | some v => f v
  | none => .missing

/-- The place an `imm16` field gives, by `f`. -/
def immWord (i : Instr) (f : Word → Place) : Place :=
  match i.operand.word? with
  | some v => f v
  | none => .missing

/-- Resolve a Location of the instruction `i` once: the place, and the state after the side effect of `HL+` and `HL-`,
"the sole side-effecting read" (40_step.md R134 to R143). -/
def resolve (i : Instr) (l : Loc) (s : State) : Place × State :=
  match l with
  | .reg8 r => (.reg8 r, s)
  | .reg16 rr => (.reg16 rr, s)
  | .indByte rr => (.byteAt (s.pair (addrPair rr)), s)
  | .indC => (.byteAt (addrC s), s)
  | .indHLInc => (.byteAt (s.pair .HL), s.setPair .HL (s.pair .HL + 1))
  | .indHLDec => (.byteAt (s.pair .HL), s.setPair .HL (s.pair .HL - 1))
  | .imm8 => (immByte i .imm8, s)
  | .imm16 => (immWord i .imm16, s)
  | .immIndByte8 => (immByte i fun v => .byteAt (addrA8 s v), s)
  | .immIndByte16 => (immWord i .byteAt, s)
  | .indWord rr => (.wordAt (s.pair (addrPair rr)), s)
  | .immIndWord8 => (immByte i fun v => .wordAt (addrA8 s v), s)
  | .immIndWord16 => (immWord i .wordAt, s)

/-- Read a place as 8 bits; `none` is a contract violation (40_step.md R144). -/
def read8 (p : Place) (s : State) : Option Byte :=
  match p with
  | .reg8 r => some (s.reg8 r)
  | .byteAt a => some (s.readByte a)
  | .imm8 v => some v
  | .reg16 _ | .wordAt _ | .imm16 _ | .missing => none

/-- Write a place as 8 bits; `none` is a contract violation (40_step.md R140, R144). -/
def write8 (p : Place) (v : Byte) (s : State) : Option State :=
  match p with
  | .reg8 r => some (s.setReg8 r v)
  | .byteAt a => some (s.writeByte a v)
  | .imm8 _ | .reg16 _ | .wordAt _ | .imm16 _ | .missing => none

/-- Read a place as 16 bits; `none` is a contract violation (40_step.md R144). -/
def read16 (p : Place) (s : State) : Option Word :=
  match p with
  | .reg16 rr => some (s.pair rr)
  | .wordAt a => some (s.readWord a)
  | .imm16 v => some v
  | .reg8 _ | .byteAt _ | .imm8 _ | .missing => none

/-- Write a place as 16 bits; `none` is a contract violation (40_step.md R140, R144). -/
def write16 (p : Place) (v : Word) (s : State) : Option State :=
  match p with
  | .reg16 rr => some (s.setPair rr v)
  | .wordAt a => some (s.writeWord a v)
  | .reg8 _ | .byteAt _ | .imm8 _ | .imm16 _ | .missing => none

/-- Resolve a source Location and read it as 8 bits: the value and the state after resolving. -/
def fetch8 (i : Instr) (l : Loc) (s : State) : Option (Byte × State) :=
  (read8 (resolve i l s).1 (resolve i l s).2).map fun v => (v, (resolve i l s).2)

/-- Resolve a source Location and read it as 16 bits: the value and the state after resolving. -/
def fetch16 (i : Instr) (l : Loc) (s : State) : Option (Word × State) :=
  (read16 (resolve i l s).1 (resolve i l s).2).map fun v => (v, (resolve i l s).2)

/-- Resolve a destination Location and write it as 8 bits. -/
def store8 (i : Instr) (l : Loc) (v : Byte) (s : State) : Option State :=
  write8 (resolve i l s).1 v (resolve i l s).2

/-- Resolve a destination Location and write it as 16 bits. -/
def store16 (i : Instr) (l : Loc) (v : Word) (s : State) : Option State :=
  write16 (resolve i l s).1 v (resolve i l s).2

/-- The outcome of a handler: its next state, or the contract violation of 60_exceptions.md R603 with the state as it
was when `step` was called (R610). -/
def finish (i : Instr) (s : State) : Option State → Host.Outcome State Fault Refusal
  | some t => .next t
  | none => raise .contractViolation i s

end Sys2Proof.Machine
end

