-- ==== Sys2Proof/Machine/CplCcf.lean ====
section
/-!
DEFINITION. The Actions `CPL` and `CCF` (45_cpl_ccf.md).
-/
namespace Sys2Proof.Machine

/-- `CPL`: `A` complemented; SUBTRACT and HALF_CARRY set only under `CPL_SETS_NH` (45_cpl_ccf.md R320). -/
def handleCpl (i : Instr) (s : State) : Host.Outcome State Fault Refusal :=
  let t := (advance i s).setReg8 .A (~~~s.a)
  .next (if s.cfg.cplSetsNH then t.setF (cplFlags t.f) else t)

/-- `CCF`: CARRY toggled, SUBTRACT and HALF_CARRY := `CCF_NH_VALUE`, ZERO kept (45_cpl_ccf.md R321). -/
def handleCcf (i : Instr) (s : State) : Host.Outcome State Fault Refusal :=
  let t := advance i s
  .next (t.setF (ccfFlags t.cfg t.f))

/-- `CPL`, 0x2F (45_cpl_ccf.md R320). -/
def execCpl (s : State) : Host.Outcome State Fault Refusal :=
  handleCpl .cpl s

/-- `CCF`, 0x3F (45_cpl_ccf.md R321). -/
def execCcf (s : State) : Host.Outcome State Fault Refusal :=
  handleCcf .ccf s

end Sys2Proof.Machine
end

