-- ==== Sys2Proof/Machine/Illegal.lean ====
section
/-!
DEFINITION. The eleven illegal opcodes (49_unimplemented_illegal.md): each traps with `IllegalOpcode`.
-/
namespace Sys2Proof.Machine

/-- An illegal entry raises `IllegalOpcode` (49_unimplemented_illegal.md R510, 60_exceptions.md R601). -/
def handleIllegal (i : Instr) (s : State) : Host.Outcome State Fault Refusal := raise .illegalOpcode i s

/-- `ILLEGAL_D3`, 0xD3 (49_unimplemented_illegal.md R511). -/
def execIllegal_D3 (s : State) : Host.Outcome State Fault Refusal :=
  handleIllegal .illegal_D3 s

/-- `ILLEGAL_DB`, 0xDB (49_unimplemented_illegal.md R512). -/
def execIllegal_DB (s : State) : Host.Outcome State Fault Refusal :=
  handleIllegal .illegal_DB s

/-- `ILLEGAL_DD`, 0xDD (49_unimplemented_illegal.md R513). -/
def execIllegal_DD (s : State) : Host.Outcome State Fault Refusal :=
  handleIllegal .illegal_DD s

/-- `ILLEGAL_E3`, 0xE3 (49_unimplemented_illegal.md R514). -/
def execIllegal_E3 (s : State) : Host.Outcome State Fault Refusal :=
  handleIllegal .illegal_E3 s

/-- `ILLEGAL_E4`, 0xE4 (49_unimplemented_illegal.md R515). -/
def execIllegal_E4 (s : State) : Host.Outcome State Fault Refusal :=
  handleIllegal .illegal_E4 s

/-- `ILLEGAL_EB`, 0xEB (49_unimplemented_illegal.md R516). -/
def execIllegal_EB (s : State) : Host.Outcome State Fault Refusal :=
  handleIllegal .illegal_EB s

/-- `ILLEGAL_EC`, 0xEC (49_unimplemented_illegal.md R517). -/
def execIllegal_EC (s : State) : Host.Outcome State Fault Refusal :=
  handleIllegal .illegal_EC s

/-- `ILLEGAL_ED`, 0xED (49_unimplemented_illegal.md R518). -/
def execIllegal_ED (s : State) : Host.Outcome State Fault Refusal :=
  handleIllegal .illegal_ED s

/-- `ILLEGAL_F4`, 0xF4 (49_unimplemented_illegal.md R519). -/
def execIllegal_F4 (s : State) : Host.Outcome State Fault Refusal :=
  handleIllegal .illegal_F4 s

/-- `ILLEGAL_FC`, 0xFC (49_unimplemented_illegal.md R520). -/
def execIllegal_FC (s : State) : Host.Outcome State Fault Refusal :=
  handleIllegal .illegal_FC s

/-- `ILLEGAL_FD`, 0xFD (49_unimplemented_illegal.md R521). -/
def execIllegal_FD (s : State) : Host.Outcome State Fault Refusal :=
  handleIllegal .illegal_FD s

end Sys2Proof.Machine
end

