-- ==== Sys2Proof/Machine/IncDec.lean ====
section
/-!
DEFINITION. The Actions `INC`, `DEC`, `INC16`, `DEC16` (46_incdec.md).
-/
namespace Sys2Proof.Machine

/-- Read a Location, write a function of the old byte to the same place, then the flag byte as a function of the old
flag byte and the old byte: the address is formed once (40_step.md R145). -/
def modify8 (i : Instr) (l : Loc) (value : Byte → Byte) (flags : Byte → Byte → Byte) (s : State) : Option State :=
  let p := resolve i l s
  (read8 p.1 p.2).bind fun old =>
    (write8 p.1 (value old) p.2).map fun t => t.setF (flags t.f old)

/-- Read a 16-bit Location and write a function of the old value to the same place; no flag (46_incdec.md R332, R333). -/
def modify16 (i : Instr) (l : Loc) (value : Word → Word) (s : State) : Option State :=
  let p := resolve i l s
  (read16 p.1 p.2).bind fun old => write16 p.1 (value old) p.2

/-- `INC(loc)`, 8-bit (46_incdec.md R330). -/
def handleInc (i : Instr) (l : Loc) (s : State) : Host.Outcome State Fault Refusal :=
  finish i s (modify8 i l (· + 1) incFlags (advance i s))

/-- `DEC(loc)`, 8-bit (46_incdec.md R331). -/
def handleDec (i : Instr) (l : Loc) (s : State) : Host.Outcome State Fault Refusal :=
  finish i s (modify8 i l (· - 1) decFlags (advance i s))

/-- `INC16(loc)` (46_incdec.md R332). -/
def handleInc16 (i : Instr) (l : Loc) (s : State) : Host.Outcome State Fault Refusal :=
  finish i s (modify16 i l (· + 1) (advance i s))

/-- `DEC16(loc)` (46_incdec.md R333). -/
def handleDec16 (i : Instr) (l : Loc) (s : State) : Host.Outcome State Fault Refusal :=
  finish i s (modify16 i l (· - 1) (advance i s))

/-- `INC BC`, 0x03 (46_incdec.md R350). -/
def execInc_BC (s : State) : Host.Outcome State Fault Refusal :=
  handleInc16 .inc_BC (.reg16 .BC) s

/-- `INC B`, 0x04 (46_incdec.md R334). -/
def execInc_B (s : State) : Host.Outcome State Fault Refusal :=
  handleInc .inc_B (.reg8 .B) s

/-- `DEC B`, 0x05 (46_incdec.md R342). -/
def execDec_B (s : State) : Host.Outcome State Fault Refusal :=
  handleDec .dec_B (.reg8 .B) s

/-- `DEC BC`, 0x0B (46_incdec.md R353). -/
def execDec_BC (s : State) : Host.Outcome State Fault Refusal :=
  handleDec16 .dec_BC (.reg16 .BC) s

/-- `INC C`, 0x0C (46_incdec.md R335). -/
def execInc_C (s : State) : Host.Outcome State Fault Refusal :=
  handleInc .inc_C (.reg8 .C) s

/-- `DEC C`, 0x0D (46_incdec.md R343). -/
def execDec_C (s : State) : Host.Outcome State Fault Refusal :=
  handleDec .dec_C (.reg8 .C) s

/-- `INC DE`, 0x13 (46_incdec.md R351). -/
def execInc_DE (s : State) : Host.Outcome State Fault Refusal :=
  handleInc16 .inc_DE (.reg16 .DE) s

/-- `INC D`, 0x14 (46_incdec.md R336). -/
def execInc_D (s : State) : Host.Outcome State Fault Refusal :=
  handleInc .inc_D (.reg8 .D) s

/-- `DEC D`, 0x15 (46_incdec.md R344). -/
def execDec_D (s : State) : Host.Outcome State Fault Refusal :=
  handleDec .dec_D (.reg8 .D) s

/-- `DEC DE`, 0x1B (46_incdec.md R354). -/
def execDec_DE (s : State) : Host.Outcome State Fault Refusal :=
  handleDec16 .dec_DE (.reg16 .DE) s

/-- `INC E`, 0x1C (46_incdec.md R337). -/
def execInc_E (s : State) : Host.Outcome State Fault Refusal :=
  handleInc .inc_E (.reg8 .E) s

/-- `DEC E`, 0x1D (46_incdec.md R345). -/
def execDec_E (s : State) : Host.Outcome State Fault Refusal :=
  handleDec .dec_E (.reg8 .E) s

/-- `INC HL`, 0x23 (46_incdec.md R352). -/
def execInc_HL (s : State) : Host.Outcome State Fault Refusal :=
  handleInc16 .inc_HL (.reg16 .HL) s

/-- `INC H`, 0x24 (46_incdec.md R338). -/
def execInc_H (s : State) : Host.Outcome State Fault Refusal :=
  handleInc .inc_H (.reg8 .H) s

/-- `DEC H`, 0x25 (46_incdec.md R346). -/
def execDec_H (s : State) : Host.Outcome State Fault Refusal :=
  handleDec .dec_H (.reg8 .H) s

/-- `DEC HL`, 0x2B (46_incdec.md R355). -/
def execDec_HL (s : State) : Host.Outcome State Fault Refusal :=
  handleDec16 .dec_HL (.reg16 .HL) s

/-- `INC L`, 0x2C (46_incdec.md R339). -/
def execInc_L (s : State) : Host.Outcome State Fault Refusal :=
  handleInc .inc_L (.reg8 .L) s

/-- `DEC L`, 0x2D (46_incdec.md R347). -/
def execDec_L (s : State) : Host.Outcome State Fault Refusal :=
  handleDec .dec_L (.reg8 .L) s

/-- `INC (HL)`, 0x34 (46_incdec.md R340). -/
def execInc_indHL (s : State) : Host.Outcome State Fault Refusal :=
  handleInc .inc_indHL (.indByte .HL) s

/-- `DEC (HL)`, 0x35 (46_incdec.md R348). -/
def execDec_indHL (s : State) : Host.Outcome State Fault Refusal :=
  handleDec .dec_indHL (.indByte .HL) s

/-- `INC A`, 0x3C (46_incdec.md R341). -/
def execInc_A (s : State) : Host.Outcome State Fault Refusal :=
  handleInc .inc_A (.reg8 .A) s

/-- `DEC A`, 0x3D (46_incdec.md R349). -/
def execDec_A (s : State) : Host.Outcome State Fault Refusal :=
  handleDec .dec_A (.reg8 .A) s

end Sys2Proof.Machine
end

