-- ==== Sys2Proof/Machine/Jp.lean ====
section
/-!
DEFINITION. The Action `JP` (44_jp.md).
-/
namespace Sys2Proof.Machine

/-- `JP(condition, target)`: advance, read the target, overwrite `pc` where the condition holds (44_jp.md R310). -/
def handleJp (i : Instr) (c : Cond) (target : Loc) (s : State) : Host.Outcome State Fault Refusal :=
  finish i s ((fetch16 i target (advance i s)).map fun p =>
    if condHolds c p.2.f then p.2.setPc p.1 else p.2)

/-- `JP NZ,a16`, 0xC2 (44_jp.md R311). -/
def execJp_NZ_a16 (imm16 : Word) (s : State) : Host.Outcome State Fault Refusal :=
  handleJp (.jp_NZ_a16 imm16) .NZ .imm16 s

/-- `JP a16`, 0xC3 (44_jp.md R312). -/
def execJp_a16 (imm16 : Word) (s : State) : Host.Outcome State Fault Refusal :=
  handleJp (.jp_a16 imm16) .always .imm16 s

/-- `JP Z,a16`, 0xCA (44_jp.md R313). -/
def execJp_Z_a16 (imm16 : Word) (s : State) : Host.Outcome State Fault Refusal :=
  handleJp (.jp_Z_a16 imm16) .Z .imm16 s

/-- `JP NC,a16`, 0xD2 (44_jp.md R314). -/
def execJp_NC_a16 (imm16 : Word) (s : State) : Host.Outcome State Fault Refusal :=
  handleJp (.jp_NC_a16 imm16) .NC .imm16 s

/-- `JP C,a16`, 0xDA (44_jp.md R315). -/
def execJp_C_a16 (imm16 : Word) (s : State) : Host.Outcome State Fault Refusal :=
  handleJp (.jp_C_a16 imm16) .C .imm16 s

/-- `JP HL`, 0xE9 (44_jp.md R316). -/
def execJp_HL (s : State) : Host.Outcome State Fault Refusal :=
  handleJp .jp_HL .always (.reg16 .HL) s

end Sys2Proof.Machine
end

