-- ==== Sys2Proof/Machine/Ld16.lean ====
section
/-!
DEFINITION. The Action `LD16` (43_ld16.md).
-/
namespace Sys2Proof.Machine

/-- `LD16(dest, src)`, 16-bit: advance, read the source, write the destination; no flag (43_ld16.md R300). -/
def handleLd16 (i : Instr) (dest src : Loc) (s : State) : Host.Outcome State Fault Refusal :=
  finish i s ((fetch16 i src (advance i s)).bind fun p => store16 i dest p.1 p.2)

/-- `LD BC,d16`, 0x01 (43_ld16.md R301). -/
def execLd_BC_d16 (imm16 : Word) (s : State) : Host.Outcome State Fault Refusal :=
  handleLd16 (.ld_BC_d16 imm16) (.reg16 .BC) .imm16 s

/-- `LD DE,d16`, 0x11 (43_ld16.md R302). -/
def execLd_DE_d16 (imm16 : Word) (s : State) : Host.Outcome State Fault Refusal :=
  handleLd16 (.ld_DE_d16 imm16) (.reg16 .DE) .imm16 s

/-- `LD HL,d16`, 0x21 (43_ld16.md R303). -/
def execLd_HL_d16 (imm16 : Word) (s : State) : Host.Outcome State Fault Refusal :=
  handleLd16 (.ld_HL_d16 imm16) (.reg16 .HL) .imm16 s

end Sys2Proof.Machine
end

