-- ==== Sys2Proof/Machine/Ld8.lean ====
section
/-!
DEFINITION. The Action `LD` (42_ld8.md R210): its handler, and the block `LD r,r` with `(HL)`, 0x40 to 0x7F.
-/
namespace Sys2Proof.Machine

/-- `LD(dest, src)`, 8-bit: advance, read the source, write the destination; no flag (42_ld8.md R210, 40_step.md R145). -/
def handleLd (i : Instr) (dest src : Loc) (s : State) : Host.Outcome State Fault Refusal :=
  finish i s ((fetch8 i src (advance i s)).bind fun p => store8 i dest p.1 p.2)

/-- `LD B,B`, 0x40 (42_ld8.md R211). -/
def execLd_B_B (s : State) : Host.Outcome State Fault Refusal :=
  handleLd .ld_B_B (.reg8 .B) (.reg8 .B) s

/-- `LD B,C`, 0x41 (42_ld8.md R212). -/
def execLd_B_C (s : State) : Host.Outcome State Fault Refusal :=
  handleLd .ld_B_C (.reg8 .B) (.reg8 .C) s

/-- `LD B,D`, 0x42 (42_ld8.md R213). -/
def execLd_B_D (s : State) : Host.Outcome State Fault Refusal :=
  handleLd .ld_B_D (.reg8 .B) (.reg8 .D) s

/-- `LD B,E`, 0x43 (42_ld8.md R214). -/
def execLd_B_E (s : State) : Host.Outcome State Fault Refusal :=
  handleLd .ld_B_E (.reg8 .B) (.reg8 .E) s

/-- `LD B,H`, 0x44 (42_ld8.md R215). -/
def execLd_B_H (s : State) : Host.Outcome State Fault Refusal :=
  handleLd .ld_B_H (.reg8 .B) (.reg8 .H) s

/-- `LD B,L`, 0x45 (42_ld8.md R216). -/
def execLd_B_L (s : State) : Host.Outcome State Fault Refusal :=
  handleLd .ld_B_L (.reg8 .B) (.reg8 .L) s

/-- `LD B,(HL)`, 0x46 (42_ld8.md R217). -/
def execLd_B_indHL (s : State) : Host.Outcome State Fault Refusal :=
  handleLd .ld_B_indHL (.reg8 .B) (.indByte .HL) s

/-- `LD B,A`, 0x47 (42_ld8.md R218). -/
def execLd_B_A (s : State) : Host.Outcome State Fault Refusal :=
  handleLd .ld_B_A (.reg8 .B) (.reg8 .A) s

/-- `LD C,B`, 0x48 (42_ld8.md R219). -/
def execLd_C_B (s : State) : Host.Outcome State Fault Refusal :=
  handleLd .ld_C_B (.reg8 .C) (.reg8 .B) s

/-- `LD C,C`, 0x49 (42_ld8.md R220). -/
def execLd_C_C (s : State) : Host.Outcome State Fault Refusal :=
  handleLd .ld_C_C (.reg8 .C) (.reg8 .C) s

/-- `LD C,D`, 0x4A (42_ld8.md R221). -/
def execLd_C_D (s : State) : Host.Outcome State Fault Refusal :=
  handleLd .ld_C_D (.reg8 .C) (.reg8 .D) s

/-- `LD C,E`, 0x4B (42_ld8.md R222). -/
def execLd_C_E (s : State) : Host.Outcome State Fault Refusal :=
  handleLd .ld_C_E (.reg8 .C) (.reg8 .E) s

/-- `LD C,H`, 0x4C (42_ld8.md R223). -/
def execLd_C_H (s : State) : Host.Outcome State Fault Refusal :=
  handleLd .ld_C_H (.reg8 .C) (.reg8 .H) s

/-- `LD C,L`, 0x4D (42_ld8.md R224). -/
def execLd_C_L (s : State) : Host.Outcome State Fault Refusal :=
  handleLd .ld_C_L (.reg8 .C) (.reg8 .L) s

/-- `LD C,(HL)`, 0x4E (42_ld8.md R225). -/
def execLd_C_indHL (s : State) : Host.Outcome State Fault Refusal :=
  handleLd .ld_C_indHL (.reg8 .C) (.indByte .HL) s

/-- `LD C,A`, 0x4F (42_ld8.md R226). -/
def execLd_C_A (s : State) : Host.Outcome State Fault Refusal :=
  handleLd .ld_C_A (.reg8 .C) (.reg8 .A) s

/-- `LD D,B`, 0x50 (42_ld8.md R227). -/
def execLd_D_B (s : State) : Host.Outcome State Fault Refusal :=
  handleLd .ld_D_B (.reg8 .D) (.reg8 .B) s

/-- `LD D,C`, 0x51 (42_ld8.md R228). -/
def execLd_D_C (s : State) : Host.Outcome State Fault Refusal :=
  handleLd .ld_D_C (.reg8 .D) (.reg8 .C) s

/-- `LD D,D`, 0x52 (42_ld8.md R229). -/
def execLd_D_D (s : State) : Host.Outcome State Fault Refusal :=
  handleLd .ld_D_D (.reg8 .D) (.reg8 .D) s

/-- `LD D,E`, 0x53 (42_ld8.md R230). -/
def execLd_D_E (s : State) : Host.Outcome State Fault Refusal :=
  handleLd .ld_D_E (.reg8 .D) (.reg8 .E) s

/-- `LD D,H`, 0x54 (42_ld8.md R231). -/
def execLd_D_H (s : State) : Host.Outcome State Fault Refusal :=
  handleLd .ld_D_H (.reg8 .D) (.reg8 .H) s

/-- `LD D,L`, 0x55 (42_ld8.md R232). -/
def execLd_D_L (s : State) : Host.Outcome State Fault Refusal :=
  handleLd .ld_D_L (.reg8 .D) (.reg8 .L) s

/-- `LD D,(HL)`, 0x56 (42_ld8.md R233). -/
def execLd_D_indHL (s : State) : Host.Outcome State Fault Refusal :=
  handleLd .ld_D_indHL (.reg8 .D) (.indByte .HL) s

/-- `LD D,A`, 0x57 (42_ld8.md R234). -/
def execLd_D_A (s : State) : Host.Outcome State Fault Refusal :=
  handleLd .ld_D_A (.reg8 .D) (.reg8 .A) s

/-- `LD E,B`, 0x58 (42_ld8.md R235). -/
def execLd_E_B (s : State) : Host.Outcome State Fault Refusal :=
  handleLd .ld_E_B (.reg8 .E) (.reg8 .B) s

/-- `LD E,C`, 0x59 (42_ld8.md R236). -/
def execLd_E_C (s : State) : Host.Outcome State Fault Refusal :=
  handleLd .ld_E_C (.reg8 .E) (.reg8 .C) s

/-- `LD E,D`, 0x5A (42_ld8.md R237). -/
def execLd_E_D (s : State) : Host.Outcome State Fault Refusal :=
  handleLd .ld_E_D (.reg8 .E) (.reg8 .D) s

/-- `LD E,E`, 0x5B (42_ld8.md R238). -/
def execLd_E_E (s : State) : Host.Outcome State Fault Refusal :=
  handleLd .ld_E_E (.reg8 .E) (.reg8 .E) s

/-- `LD E,H`, 0x5C (42_ld8.md R239). -/
def execLd_E_H (s : State) : Host.Outcome State Fault Refusal :=
  handleLd .ld_E_H (.reg8 .E) (.reg8 .H) s

/-- `LD E,L`, 0x5D (42_ld8.md R240). -/
def execLd_E_L (s : State) : Host.Outcome State Fault Refusal :=
  handleLd .ld_E_L (.reg8 .E) (.reg8 .L) s

/-- `LD E,(HL)`, 0x5E (42_ld8.md R241). -/
def execLd_E_indHL (s : State) : Host.Outcome State Fault Refusal :=
  handleLd .ld_E_indHL (.reg8 .E) (.indByte .HL) s

/-- `LD E,A`, 0x5F (42_ld8.md R242). -/
def execLd_E_A (s : State) : Host.Outcome State Fault Refusal :=
  handleLd .ld_E_A (.reg8 .E) (.reg8 .A) s

/-- `LD H,B`, 0x60 (42_ld8.md R243). -/
def execLd_H_B (s : State) : Host.Outcome State Fault Refusal :=
  handleLd .ld_H_B (.reg8 .H) (.reg8 .B) s

/-- `LD H,C`, 0x61 (42_ld8.md R244). -/
def execLd_H_C (s : State) : Host.Outcome State Fault Refusal :=
  handleLd .ld_H_C (.reg8 .H) (.reg8 .C) s

/-- `LD H,D`, 0x62 (42_ld8.md R245). -/
def execLd_H_D (s : State) : Host.Outcome State Fault Refusal :=
  handleLd .ld_H_D (.reg8 .H) (.reg8 .D) s

/-- `LD H,E`, 0x63 (42_ld8.md R246). -/
def execLd_H_E (s : State) : Host.Outcome State Fault Refusal :=
  handleLd .ld_H_E (.reg8 .H) (.reg8 .E) s

/-- `LD H,H`, 0x64 (42_ld8.md R247). -/
def execLd_H_H (s : State) : Host.Outcome State Fault Refusal :=
  handleLd .ld_H_H (.reg8 .H) (.reg8 .H) s

/-- `LD H,L`, 0x65 (42_ld8.md R248). -/
def execLd_H_L (s : State) : Host.Outcome State Fault Refusal :=
  handleLd .ld_H_L (.reg8 .H) (.reg8 .L) s

/-- `LD H,(HL)`, 0x66 (42_ld8.md R249). -/
def execLd_H_indHL (s : State) : Host.Outcome State Fault Refusal :=
  handleLd .ld_H_indHL (.reg8 .H) (.indByte .HL) s

/-- `LD H,A`, 0x67 (42_ld8.md R250). -/
def execLd_H_A (s : State) : Host.Outcome State Fault Refusal :=
  handleLd .ld_H_A (.reg8 .H) (.reg8 .A) s

/-- `LD L,B`, 0x68 (42_ld8.md R251). -/
def execLd_L_B (s : State) : Host.Outcome State Fault Refusal :=
  handleLd .ld_L_B (.reg8 .L) (.reg8 .B) s

/-- `LD L,C`, 0x69 (42_ld8.md R252). -/
def execLd_L_C (s : State) : Host.Outcome State Fault Refusal :=
  handleLd .ld_L_C (.reg8 .L) (.reg8 .C) s

/-- `LD L,D`, 0x6A (42_ld8.md R253). -/
def execLd_L_D (s : State) : Host.Outcome State Fault Refusal :=
  handleLd .ld_L_D (.reg8 .L) (.reg8 .D) s

/-- `LD L,E`, 0x6B (42_ld8.md R254). -/
def execLd_L_E (s : State) : Host.Outcome State Fault Refusal :=
  handleLd .ld_L_E (.reg8 .L) (.reg8 .E) s

/-- `LD L,H`, 0x6C (42_ld8.md R255). -/
def execLd_L_H (s : State) : Host.Outcome State Fault Refusal :=
  handleLd .ld_L_H (.reg8 .L) (.reg8 .H) s

/-- `LD L,L`, 0x6D (42_ld8.md R256). -/
def execLd_L_L (s : State) : Host.Outcome State Fault Refusal :=
  handleLd .ld_L_L (.reg8 .L) (.reg8 .L) s

/-- `LD L,(HL)`, 0x6E (42_ld8.md R257). -/
def execLd_L_indHL (s : State) : Host.Outcome State Fault Refusal :=
  handleLd .ld_L_indHL (.reg8 .L) (.indByte .HL) s

/-- `LD L,A`, 0x6F (42_ld8.md R258). -/
def execLd_L_A (s : State) : Host.Outcome State Fault Refusal :=
  handleLd .ld_L_A (.reg8 .L) (.reg8 .A) s

/-- `LD (HL),B`, 0x70 (42_ld8.md R259). -/
def execLd_indHL_B (s : State) : Host.Outcome State Fault Refusal :=
  handleLd .ld_indHL_B (.indByte .HL) (.reg8 .B) s

/-- `LD (HL),C`, 0x71 (42_ld8.md R260). -/
def execLd_indHL_C (s : State) : Host.Outcome State Fault Refusal :=
  handleLd .ld_indHL_C (.indByte .HL) (.reg8 .C) s

/-- `LD (HL),D`, 0x72 (42_ld8.md R261). -/
def execLd_indHL_D (s : State) : Host.Outcome State Fault Refusal :=
  handleLd .ld_indHL_D (.indByte .HL) (.reg8 .D) s

/-- `LD (HL),E`, 0x73 (42_ld8.md R262). -/
def execLd_indHL_E (s : State) : Host.Outcome State Fault Refusal :=
  handleLd .ld_indHL_E (.indByte .HL) (.reg8 .E) s

/-- `LD (HL),H`, 0x74 (42_ld8.md R263). -/
def execLd_indHL_H (s : State) : Host.Outcome State Fault Refusal :=
  handleLd .ld_indHL_H (.indByte .HL) (.reg8 .H) s

/-- `LD (HL),L`, 0x75 (42_ld8.md R264). -/
def execLd_indHL_L (s : State) : Host.Outcome State Fault Refusal :=
  handleLd .ld_indHL_L (.indByte .HL) (.reg8 .L) s

/-- `LD (HL),A`, 0x77 (42_ld8.md R265). -/
def execLd_indHL_A (s : State) : Host.Outcome State Fault Refusal :=
  handleLd .ld_indHL_A (.indByte .HL) (.reg8 .A) s

/-- `LD A,B`, 0x78 (42_ld8.md R266). -/
def execLd_A_B (s : State) : Host.Outcome State Fault Refusal :=
  handleLd .ld_A_B (.reg8 .A) (.reg8 .B) s

/-- `LD A,C`, 0x79 (42_ld8.md R267). -/
def execLd_A_C (s : State) : Host.Outcome State Fault Refusal :=
  handleLd .ld_A_C (.reg8 .A) (.reg8 .C) s

/-- `LD A,D`, 0x7A (42_ld8.md R268). -/
def execLd_A_D (s : State) : Host.Outcome State Fault Refusal :=
  handleLd .ld_A_D (.reg8 .A) (.reg8 .D) s

/-- `LD A,E`, 0x7B (42_ld8.md R269). -/
def execLd_A_E (s : State) : Host.Outcome State Fault Refusal :=
  handleLd .ld_A_E (.reg8 .A) (.reg8 .E) s

/-- `LD A,H`, 0x7C (42_ld8.md R270). -/
def execLd_A_H (s : State) : Host.Outcome State Fault Refusal :=
  handleLd .ld_A_H (.reg8 .A) (.reg8 .H) s

/-- `LD A,L`, 0x7D (42_ld8.md R271). -/
def execLd_A_L (s : State) : Host.Outcome State Fault Refusal :=
  handleLd .ld_A_L (.reg8 .A) (.reg8 .L) s

/-- `LD A,(HL)`, 0x7E (42_ld8.md R272). -/
def execLd_A_indHL (s : State) : Host.Outcome State Fault Refusal :=
  handleLd .ld_A_indHL (.reg8 .A) (.indByte .HL) s

/-- `LD A,A`, 0x7F (42_ld8.md R273). -/
def execLd_A_A (s : State) : Host.Outcome State Fault Refusal :=
  handleLd .ld_A_A (.reg8 .A) (.reg8 .A) s

end Sys2Proof.Machine
end

