-- ==== Sys2Proof/Machine/Ld8Memory.lean ====
section
/-!
DEFINITION. The Action `LD` (42_ld8.md R210): the immediate and memory forms outside the block 0x40 to 0x7F.
-/
namespace Sys2Proof.Machine

/-- `LD (BC),A`, 0x02 (42_ld8_memory_forms.md R282). -/
def execLd_indBC_A (s : State) : Host.Outcome State Fault Refusal :=
  handleLd .ld_indBC_A (.indByte .BC) (.reg8 .A) s

/-- `LD B,d8`, 0x06 (42_ld8_memory_forms.md R274). -/
def execLd_B_d8 (imm8 : Byte) (s : State) : Host.Outcome State Fault Refusal :=
  handleLd (.ld_B_d8 imm8) (.reg8 .B) .imm8 s

/-- `LD A,(BC)`, 0x0A (42_ld8_memory_forms.md R283). -/
def execLd_A_indBC (s : State) : Host.Outcome State Fault Refusal :=
  handleLd .ld_A_indBC (.reg8 .A) (.indByte .BC) s

/-- `LD C,d8`, 0x0E (42_ld8_memory_forms.md R275). -/
def execLd_C_d8 (imm8 : Byte) (s : State) : Host.Outcome State Fault Refusal :=
  handleLd (.ld_C_d8 imm8) (.reg8 .C) .imm8 s

/-- `LD (DE),A`, 0x12 (42_ld8_memory_forms.md R284). -/
def execLd_indDE_A (s : State) : Host.Outcome State Fault Refusal :=
  handleLd .ld_indDE_A (.indByte .DE) (.reg8 .A) s

/-- `LD D,d8`, 0x16 (42_ld8_memory_forms.md R276). -/
def execLd_D_d8 (imm8 : Byte) (s : State) : Host.Outcome State Fault Refusal :=
  handleLd (.ld_D_d8 imm8) (.reg8 .D) .imm8 s

/-- `LD A,(DE)`, 0x1A (42_ld8_memory_forms.md R285). -/
def execLd_A_indDE (s : State) : Host.Outcome State Fault Refusal :=
  handleLd .ld_A_indDE (.reg8 .A) (.indByte .DE) s

/-- `LD E,d8`, 0x1E (42_ld8_memory_forms.md R277). -/
def execLd_E_d8 (imm8 : Byte) (s : State) : Host.Outcome State Fault Refusal :=
  handleLd (.ld_E_d8 imm8) (.reg8 .E) .imm8 s

/-- `LD (HL+),A`, 0x22 (42_ld8_memory_forms.md R286). -/
def execLd_indHLinc_A (s : State) : Host.Outcome State Fault Refusal :=
  handleLd .ld_indHLinc_A .indHLInc (.reg8 .A) s

/-- `LD H,d8`, 0x26 (42_ld8_memory_forms.md R278). -/
def execLd_H_d8 (imm8 : Byte) (s : State) : Host.Outcome State Fault Refusal :=
  handleLd (.ld_H_d8 imm8) (.reg8 .H) .imm8 s

/-- `LD A,(HL+)`, 0x2A (42_ld8_memory_forms.md R287). -/
def execLd_A_indHLinc (s : State) : Host.Outcome State Fault Refusal :=
  handleLd .ld_A_indHLinc (.reg8 .A) .indHLInc s

/-- `LD L,d8`, 0x2E (42_ld8_memory_forms.md R279). -/
def execLd_L_d8 (imm8 : Byte) (s : State) : Host.Outcome State Fault Refusal :=
  handleLd (.ld_L_d8 imm8) (.reg8 .L) .imm8 s

/-- `LD (HL-),A`, 0x32 (42_ld8_memory_forms.md R288). -/
def execLd_indHLdec_A (s : State) : Host.Outcome State Fault Refusal :=
  handleLd .ld_indHLdec_A .indHLDec (.reg8 .A) s

/-- `LD (HL),d8`, 0x36 (42_ld8_memory_forms.md R280). -/
def execLd_indHL_d8 (imm8 : Byte) (s : State) : Host.Outcome State Fault Refusal :=
  handleLd (.ld_indHL_d8 imm8) (.indByte .HL) .imm8 s

/-- `LD A,(HL-)`, 0x3A (42_ld8_memory_forms.md R289). -/
def execLd_A_indHLdec (s : State) : Host.Outcome State Fault Refusal :=
  handleLd .ld_A_indHLdec (.reg8 .A) .indHLDec s

/-- `LD A,d8`, 0x3E (42_ld8_memory_forms.md R281). -/
def execLd_A_d8 (imm8 : Byte) (s : State) : Host.Outcome State Fault Refusal :=
  handleLd (.ld_A_d8 imm8) (.reg8 .A) .imm8 s

/-- `LDH (a8),A`, 0xE0 (42_ld8_memory_forms.md R290). -/
def execLdh_indA8_A (imm8 : Byte) (s : State) : Host.Outcome State Fault Refusal :=
  handleLd (.ldh_indA8_A imm8) .immIndByte8 (.reg8 .A) s

/-- `LD (C),A`, 0xE2 (42_ld8_memory_forms.md R291). -/
def execLd_indC_A (s : State) : Host.Outcome State Fault Refusal :=
  handleLd .ld_indC_A .indC (.reg8 .A) s

/-- `LD (a16),A`, 0xEA (42_ld8_memory_forms.md R292). -/
def execLd_indA16_A (imm16 : Word) (s : State) : Host.Outcome State Fault Refusal :=
  handleLd (.ld_indA16_A imm16) .immIndByte16 (.reg8 .A) s

/-- `LDH A,(a8)`, 0xF0 (42_ld8_memory_forms.md R293). -/
def execLdh_A_indA8 (imm8 : Byte) (s : State) : Host.Outcome State Fault Refusal :=
  handleLd (.ldh_A_indA8 imm8) (.reg8 .A) .immIndByte8 s

/-- `LD A,(C)`, 0xF2 (42_ld8_memory_forms.md R294). -/
def execLd_A_indC (s : State) : Host.Outcome State Fault Refusal :=
  handleLd .ld_A_indC (.reg8 .A) .indC s

/-- `LD A,(a16)`, 0xFA (42_ld8_memory_forms.md R295). -/
def execLd_A_indA16 (imm16 : Word) (s : State) : Host.Outcome State Fault Refusal :=
  handleLd (.ld_A_indA16 imm16) (.reg8 .A) .immIndByte16 s

end Sys2Proof.Machine
end

