-- ==== Sys2Proof/Machine/Nop.lean ====
section
/-!
DEFINITION. The Action `NOP` (41_nop.md).
-/
namespace Sys2Proof.Machine

/-- `NOP`: `pc <- pc +16 1` and nothing else (41_nop.md R200). -/
def handleNop (i : Instr) (s : State) : Host.Outcome State Fault Refusal := .next (advance i s)

/-- `NOP`, 0x00 (41_nop.md R200). -/
def execNop (s : State) : Host.Outcome State Fault Refusal :=
  handleNop .nop s

end Sys2Proof.Machine
end

