-- ==== Sys2Proof/Machine/Unimplemented.lean ====
section
/-!
DEFINITION. The entries tagged `UNIMPLEMENTED` (49_unimplemented_illegal.md): each traps with `UnimplementedAction`.
-/
namespace Sys2Proof.Machine

/-- An entry tagged `UNIMPLEMENTED` raises `UnimplementedAction` (49_unimplemented_illegal.md R450). -/
def handleUnimplemented (i : Instr) (s : State) : Host.Outcome State Fault Refusal := raise .unimplementedAction i s

/-- `RLCA`, 0x07 (49_unimplemented_illegal.md R451). -/
def execRlca (s : State) : Host.Outcome State Fault Refusal :=
  handleUnimplemented .rlca s

/-- `LD (a16),SP`, 0x08 (49_unimplemented_illegal.md R452). -/
def execLd_indA16_SP (imm16 : Word) (s : State) : Host.Outcome State Fault Refusal :=
  handleUnimplemented (.ld_indA16_SP imm16) s

/-- `RRCA`, 0x0F (49_unimplemented_illegal.md R453). -/
def execRrca (s : State) : Host.Outcome State Fault Refusal :=
  handleUnimplemented .rrca s

/-- `STOP`, 0x10 (49_unimplemented_illegal.md R454). -/
def execStop (imm8 : Byte) (s : State) : Host.Outcome State Fault Refusal :=
  handleUnimplemented (.stop imm8) s

/-- `RLA`, 0x17 (49_unimplemented_illegal.md R455). -/
def execRla (s : State) : Host.Outcome State Fault Refusal :=
  handleUnimplemented .rla s

/-- `JR r8`, 0x18 (49_unimplemented_illegal.md R456). -/
def execJr_r8 (imm8 : Byte) (s : State) : Host.Outcome State Fault Refusal :=
  handleUnimplemented (.jr_r8 imm8) s

/-- `RRA`, 0x1F (49_unimplemented_illegal.md R457). -/
def execRra (s : State) : Host.Outcome State Fault Refusal :=
  handleUnimplemented .rra s

/-- `JR NZ,r8`, 0x20 (49_unimplemented_illegal.md R458). -/
def execJr_NZ_r8 (imm8 : Byte) (s : State) : Host.Outcome State Fault Refusal :=
  handleUnimplemented (.jr_NZ_r8 imm8) s

/-- `DAA`, 0x27 (49_unimplemented_illegal.md R459). -/
def execDaa (s : State) : Host.Outcome State Fault Refusal :=
  handleUnimplemented .daa s

/-- `JR Z,r8`, 0x28 (49_unimplemented_illegal.md R460). -/
def execJr_Z_r8 (imm8 : Byte) (s : State) : Host.Outcome State Fault Refusal :=
  handleUnimplemented (.jr_Z_r8 imm8) s

/-- `JR NC,r8`, 0x30 (49_unimplemented_illegal.md R461). -/
def execJr_NC_r8 (imm8 : Byte) (s : State) : Host.Outcome State Fault Refusal :=
  handleUnimplemented (.jr_NC_r8 imm8) s

/-- `LD SP,d16`, 0x31 (49_unimplemented_illegal.md R462). -/
def execLd_SP_d16 (imm16 : Word) (s : State) : Host.Outcome State Fault Refusal :=
  handleUnimplemented (.ld_SP_d16 imm16) s

/-- `INC SP`, 0x33 (49_unimplemented_illegal.md R463). -/
def execInc_SP (s : State) : Host.Outcome State Fault Refusal :=
  handleUnimplemented .inc_SP s

/-- `SCF`, 0x37 (49_unimplemented_illegal.md R464). -/
def execScf (s : State) : Host.Outcome State Fault Refusal :=
  handleUnimplemented .scf s

/-- `JR C,r8`, 0x38 (49_unimplemented_illegal.md R465). -/
def execJr_C_r8 (imm8 : Byte) (s : State) : Host.Outcome State Fault Refusal :=
  handleUnimplemented (.jr_C_r8 imm8) s

/-- `ADD HL,SP`, 0x39 (49_unimplemented_illegal.md R466). -/
def execAdd_HL_SP (s : State) : Host.Outcome State Fault Refusal :=
  handleUnimplemented .add_HL_SP s

/-- `DEC SP`, 0x3B (49_unimplemented_illegal.md R467). -/
def execDec_SP (s : State) : Host.Outcome State Fault Refusal :=
  handleUnimplemented .dec_SP s

/-- `HALT`, 0x76 (49_unimplemented_illegal.md R468). -/
def execHalt (s : State) : Host.Outcome State Fault Refusal :=
  handleUnimplemented .halt s

/-- `RET NZ`, 0xC0 (49_unimplemented_illegal.md R469). -/
def execRet_NZ (s : State) : Host.Outcome State Fault Refusal :=
  handleUnimplemented .ret_NZ s

/-- `POP BC`, 0xC1 (49_unimplemented_illegal.md R470). -/
def execPop_BC (s : State) : Host.Outcome State Fault Refusal :=
  handleUnimplemented .pop_BC s

/-- `CALL NZ,a16`, 0xC4 (49_unimplemented_illegal.md R471). -/
def execCall_NZ_a16 (imm16 : Word) (s : State) : Host.Outcome State Fault Refusal :=
  handleUnimplemented (.call_NZ_a16 imm16) s

/-- `PUSH BC`, 0xC5 (49_unimplemented_illegal.md R472). -/
def execPush_BC (s : State) : Host.Outcome State Fault Refusal :=
  handleUnimplemented .push_BC s

/-- `RST 00H`, 0xC7 (49_unimplemented_illegal.md R473). -/
def execRst_00H (s : State) : Host.Outcome State Fault Refusal :=
  handleUnimplemented .rst_00H s

/-- `RET Z`, 0xC8 (49_unimplemented_illegal.md R474). -/
def execRet_Z (s : State) : Host.Outcome State Fault Refusal :=
  handleUnimplemented .ret_Z s

/-- `RET`, 0xC9 (49_unimplemented_illegal.md R475). -/
def execRet (s : State) : Host.Outcome State Fault Refusal :=
  handleUnimplemented .ret s

/-- `PREFIX CB`, 0xCB (49_unimplemented_illegal.md R476). -/
def execPrefix_CB (imm8 : Byte) (s : State) : Host.Outcome State Fault Refusal :=
  handleUnimplemented (.prefix_CB imm8) s

/-- `CALL Z,a16`, 0xCC (49_unimplemented_illegal.md R477). -/
def execCall_Z_a16 (imm16 : Word) (s : State) : Host.Outcome State Fault Refusal :=
  handleUnimplemented (.call_Z_a16 imm16) s

/-- `CALL a16`, 0xCD (49_unimplemented_illegal.md R478). -/
def execCall_a16 (imm16 : Word) (s : State) : Host.Outcome State Fault Refusal :=
  handleUnimplemented (.call_a16 imm16) s

/-- `RST 08H`, 0xCF (49_unimplemented_illegal.md R479). -/
def execRst_08H (s : State) : Host.Outcome State Fault Refusal :=
  handleUnimplemented .rst_08H s

/-- `RET NC`, 0xD0 (49_unimplemented_illegal.md R480). -/
def execRet_NC (s : State) : Host.Outcome State Fault Refusal :=
  handleUnimplemented .ret_NC s

/-- `POP DE`, 0xD1 (49_unimplemented_illegal.md R481). -/
def execPop_DE (s : State) : Host.Outcome State Fault Refusal :=
  handleUnimplemented .pop_DE s

/-- `CALL NC,a16`, 0xD4 (49_unimplemented_illegal.md R482). -/
def execCall_NC_a16 (imm16 : Word) (s : State) : Host.Outcome State Fault Refusal :=
  handleUnimplemented (.call_NC_a16 imm16) s

/-- `PUSH DE`, 0xD5 (49_unimplemented_illegal.md R483). -/
def execPush_DE (s : State) : Host.Outcome State Fault Refusal :=
  handleUnimplemented .push_DE s

/-- `RST 10H`, 0xD7 (49_unimplemented_illegal.md R484). -/
def execRst_10H (s : State) : Host.Outcome State Fault Refusal :=
  handleUnimplemented .rst_10H s

/-- `RET C`, 0xD8 (49_unimplemented_illegal.md R485). -/
def execRet_C (s : State) : Host.Outcome State Fault Refusal :=
  handleUnimplemented .ret_C s

/-- `RETI`, 0xD9 (49_unimplemented_illegal.md R486). -/
def execReti (s : State) : Host.Outcome State Fault Refusal :=
  handleUnimplemented .reti s

/-- `CALL C,a16`, 0xDC (49_unimplemented_illegal.md R487). -/
def execCall_C_a16 (imm16 : Word) (s : State) : Host.Outcome State Fault Refusal :=
  handleUnimplemented (.call_C_a16 imm16) s

/-- `RST 18H`, 0xDF (49_unimplemented_illegal.md R488). -/
def execRst_18H (s : State) : Host.Outcome State Fault Refusal :=
  handleUnimplemented .rst_18H s

/-- `POP HL`, 0xE1 (49_unimplemented_illegal.md R489). -/
def execPop_HL (s : State) : Host.Outcome State Fault Refusal :=
  handleUnimplemented .pop_HL s

/-- `PUSH HL`, 0xE5 (49_unimplemented_illegal.md R490). -/
def execPush_HL (s : State) : Host.Outcome State Fault Refusal :=
  handleUnimplemented .push_HL s

/-- `RST 20H`, 0xE7 (49_unimplemented_illegal.md R491). -/
def execRst_20H (s : State) : Host.Outcome State Fault Refusal :=
  handleUnimplemented .rst_20H s

/-- `ADD SP,r8`, 0xE8 (49_unimplemented_illegal.md R492). -/
def execAdd_SP_r8 (imm8 : Byte) (s : State) : Host.Outcome State Fault Refusal :=
  handleUnimplemented (.add_SP_r8 imm8) s

/-- `RST 28H`, 0xEF (49_unimplemented_illegal.md R493). -/
def execRst_28H (s : State) : Host.Outcome State Fault Refusal :=
  handleUnimplemented .rst_28H s

/-- `POP AF`, 0xF1 (49_unimplemented_illegal.md R494). -/
def execPop_AF (s : State) : Host.Outcome State Fault Refusal :=
  handleUnimplemented .pop_AF s

/-- `DI`, 0xF3 (49_unimplemented_illegal.md R495). -/
def execDi (s : State) : Host.Outcome State Fault Refusal :=
  handleUnimplemented .di s

/-- `PUSH AF`, 0xF5 (49_unimplemented_illegal.md R496). -/
def execPush_AF (s : State) : Host.Outcome State Fault Refusal :=
  handleUnimplemented .push_AF s

/-- `RST 30H`, 0xF7 (49_unimplemented_illegal.md R497). -/
def execRst_30H (s : State) : Host.Outcome State Fault Refusal :=
  handleUnimplemented .rst_30H s

/-- `LD HL,SP+r8`, 0xF8 (49_unimplemented_illegal.md R498). -/
def execLd_HL_SPr8 (imm8 : Byte) (s : State) : Host.Outcome State Fault Refusal :=
  handleUnimplemented (.ld_HL_SPr8 imm8) s

/-- `LD SP,HL`, 0xF9 (49_unimplemented_illegal.md R499). -/
def execLd_SP_HL (s : State) : Host.Outcome State Fault Refusal :=
  handleUnimplemented .ld_SP_HL s

/-- `EI`, 0xFB (49_unimplemented_illegal.md R500). -/
def execEi (s : State) : Host.Outcome State Fault Refusal :=
  handleUnimplemented .ei s

/-- `RST 38H`, 0xFF (49_unimplemented_illegal.md R501). -/
def execRst_38H (s : State) : Host.Outcome State Fault Refusal :=
  handleUnimplemented .rst_38H s

end Sys2Proof.Machine
end

