-- ==== Sys2Proof/Machine/Xor.lean ====
section
/-!
DEFINITION. The Action `XOR` (47_xor.md).
-/
namespace Sys2Proof.Machine

/-- `XOR(dest, src)`: advance, read `src` and `dest`, write `d ^ s`, set the flags (47_xor.md R360). -/
def handleXor (i : Instr) (dest src : Loc) (s : State) : Host.Outcome State Fault Refusal :=
  finish i s ((fetch8 i src (advance i s)).bind fun p =>
    let q := resolve i dest p.2
    (read8 q.1 q.2).bind fun d =>
      (write8 q.1 (d ^^^ p.1) q.2).map fun t => t.setF (xorFlags t.f (d ^^^ p.1)))

/-- `XOR A,B`, 0xA8 (47_xor.md R361). -/
def execXor_A_B (s : State) : Host.Outcome State Fault Refusal :=
  handleXor .xor_A_B (.reg8 .A) (.reg8 .B) s

/-- `XOR A,C`, 0xA9 (47_xor.md R362). -/
def execXor_A_C (s : State) : Host.Outcome State Fault Refusal :=
  handleXor .xor_A_C (.reg8 .A) (.reg8 .C) s

/-- `XOR A,D`, 0xAA (47_xor.md R363). -/
def execXor_A_D (s : State) : Host.Outcome State Fault Refusal :=
  handleXor .xor_A_D (.reg8 .A) (.reg8 .D) s

/-- `XOR A,E`, 0xAB (47_xor.md R364). -/
def execXor_A_E (s : State) : Host.Outcome State Fault Refusal :=
  handleXor .xor_A_E (.reg8 .A) (.reg8 .E) s

/-- `XOR A,H`, 0xAC (47_xor.md R365). -/
def execXor_A_H (s : State) : Host.Outcome State Fault Refusal :=
  handleXor .xor_A_H (.reg8 .A) (.reg8 .H) s

/-- `XOR A,L`, 0xAD (47_xor.md R366). -/
def execXor_A_L (s : State) : Host.Outcome State Fault Refusal :=
  handleXor .xor_A_L (.reg8 .A) (.reg8 .L) s

/-- `XOR A,(HL)`, 0xAE (47_xor.md R367). -/
def execXor_A_indHL (s : State) : Host.Outcome State Fault Refusal :=
  handleXor .xor_A_indHL (.reg8 .A) (.indByte .HL) s

/-- `XOR A,A`, 0xAF (47_xor.md R368). -/
def execXor_A_A (s : State) : Host.Outcome State Fault Refusal :=
  handleXor .xor_A_A (.reg8 .A) (.reg8 .A) s

/-- `XOR A,d8`, 0xEE (47_xor.md R369). -/
def execXor_A_d8 (imm8 : Byte) (s : State) : Host.Outcome State Fault Refusal :=
  handleXor (.xor_A_d8 imm8) (.reg8 .A) .imm8 s

end Sys2Proof.Machine
end

