-- ==== Sys2Proof/Machine/Dispatch.lean ====
section
/-!
DEFINITION. What each instruction does: one arm per row of the opcode map.
-/
namespace Sys2Proof.Machine

def exec (i : Instr) (s : State) : Host.Outcome State Fault Refusal :=
  match i with
  | .nop => Sys2Proof.Machine.execNop s
  | .ld_BC_d16 imm16 => Sys2Proof.Machine.execLd_BC_d16 imm16 s
  | .ld_indBC_A => Sys2Proof.Machine.execLd_indBC_A s
  | .inc_BC => Sys2Proof.Machine.execInc_BC s
  | .inc_B => Sys2Proof.Machine.execInc_B s
  | .dec_B => Sys2Proof.Machine.execDec_B s
  | .ld_B_d8 imm8 => Sys2Proof.Machine.execLd_B_d8 imm8 s
  | .rlca => Sys2Proof.Machine.execRlca s
  | .ld_indA16_SP imm16 => Sys2Proof.Machine.execLd_indA16_SP imm16 s
  | .add_HL_BC => Sys2Proof.Machine.execAdd_HL_BC s
  | .ld_A_indBC => Sys2Proof.Machine.execLd_A_indBC s
  | .dec_BC => Sys2Proof.Machine.execDec_BC s
  | .inc_C => Sys2Proof.Machine.execInc_C s
  | .dec_C => Sys2Proof.Machine.execDec_C s
  | .ld_C_d8 imm8 => Sys2Proof.Machine.execLd_C_d8 imm8 s
  | .rrca => Sys2Proof.Machine.execRrca s
  | .stop imm8 => Sys2Proof.Machine.execStop imm8 s
  | .ld_DE_d16 imm16 => Sys2Proof.Machine.execLd_DE_d16 imm16 s
  | .ld_indDE_A => Sys2Proof.Machine.execLd_indDE_A s
  | .inc_DE => Sys2Proof.Machine.execInc_DE s
  | .inc_D => Sys2Proof.Machine.execInc_D s
  | .dec_D => Sys2Proof.Machine.execDec_D s
  | .ld_D_d8 imm8 => Sys2Proof.Machine.execLd_D_d8 imm8 s
  | .rla => Sys2Proof.Machine.execRla s
  | .jr_r8 imm8 => Sys2Proof.Machine.execJr_r8 imm8 s
  | .add_HL_DE => Sys2Proof.Machine.execAdd_HL_DE s
  | .ld_A_indDE => Sys2Proof.Machine.execLd_A_indDE s
  | .dec_DE => Sys2Proof.Machine.execDec_DE s
  | .inc_E => Sys2Proof.Machine.execInc_E s
  | .dec_E => Sys2Proof.Machine.execDec_E s
  | .ld_E_d8 imm8 => Sys2Proof.Machine.execLd_E_d8 imm8 s
  | .rra => Sys2Proof.Machine.execRra s
  | .jr_NZ_r8 imm8 => Sys2Proof.Machine.execJr_NZ_r8 imm8 s
  | .ld_HL_d16 imm16 => Sys2Proof.Machine.execLd_HL_d16 imm16 s
  | .ld_indHLinc_A => Sys2Proof.Machine.execLd_indHLinc_A s
  | .inc_HL => Sys2Proof.Machine.execInc_HL s
  | .inc_H => Sys2Proof.Machine.execInc_H s
  | .dec_H => Sys2Proof.Machine.execDec_H s
  | .ld_H_d8 imm8 => Sys2Proof.Machine.execLd_H_d8 imm8 s
  | .daa => Sys2Proof.Machine.execDaa s
  | .jr_Z_r8 imm8 => Sys2Proof.Machine.execJr_Z_r8 imm8 s
  | .add_HL_HL => Sys2Proof.Machine.execAdd_HL_HL s
  | .ld_A_indHLinc => Sys2Proof.Machine.execLd_A_indHLinc s
  | .dec_HL => Sys2Proof.Machine.execDec_HL s
  | .inc_L => Sys2Proof.Machine.execInc_L s
  | .dec_L => Sys2Proof.Machine.execDec_L s
  | .ld_L_d8 imm8 => Sys2Proof.Machine.execLd_L_d8 imm8 s
  | .cpl => Sys2Proof.Machine.execCpl s
  | .jr_NC_r8 imm8 => Sys2Proof.Machine.execJr_NC_r8 imm8 s
  | .ld_SP_d16 imm16 => Sys2Proof.Machine.execLd_SP_d16 imm16 s
  | .ld_indHLdec_A => Sys2Proof.Machine.execLd_indHLdec_A s
  | .inc_SP => Sys2Proof.Machine.execInc_SP s
  | .inc_indHL => Sys2Proof.Machine.execInc_indHL s
  | .dec_indHL => Sys2Proof.Machine.execDec_indHL s
  | .ld_indHL_d8 imm8 => Sys2Proof.Machine.execLd_indHL_d8 imm8 s
  | .scf => Sys2Proof.Machine.execScf s
  | .jr_C_r8 imm8 => Sys2Proof.Machine.execJr_C_r8 imm8 s
  | .add_HL_SP => Sys2Proof.Machine.execAdd_HL_SP s
  | .ld_A_indHLdec => Sys2Proof.Machine.execLd_A_indHLdec s
  | .dec_SP => Sys2Proof.Machine.execDec_SP s
  | .inc_A => Sys2Proof.Machine.execInc_A s
  | .dec_A => Sys2Proof.Machine.execDec_A s
  | .ld_A_d8 imm8 => Sys2Proof.Machine.execLd_A_d8 imm8 s
  | .ccf => Sys2Proof.Machine.execCcf s
  | .ld_B_B => Sys2Proof.Machine.execLd_B_B s
  | .ld_B_C => Sys2Proof.Machine.execLd_B_C s
  | .ld_B_D => Sys2Proof.Machine.execLd_B_D s
  | .ld_B_E => Sys2Proof.Machine.execLd_B_E s
  | .ld_B_H => Sys2Proof.Machine.execLd_B_H s
  | .ld_B_L => Sys2Proof.Machine.execLd_B_L s
  | .ld_B_indHL => Sys2Proof.Machine.execLd_B_indHL s
  | .ld_B_A => Sys2Proof.Machine.execLd_B_A s
  | .ld_C_B => Sys2Proof.Machine.execLd_C_B s
  | .ld_C_C => Sys2Proof.Machine.execLd_C_C s
  | .ld_C_D => Sys2Proof.Machine.execLd_C_D s
  | .ld_C_E => Sys2Proof.Machine.execLd_C_E s
  | .ld_C_H => Sys2Proof.Machine.execLd_C_H s
  | .ld_C_L => Sys2Proof.Machine.execLd_C_L s
  | .ld_C_indHL => Sys2Proof.Machine.execLd_C_indHL s
  | .ld_C_A => Sys2Proof.Machine.execLd_C_A s
  | .ld_D_B => Sys2Proof.Machine.execLd_D_B s
  | .ld_D_C => Sys2Proof.Machine.execLd_D_C s
  | .ld_D_D => Sys2Proof.Machine.execLd_D_D s
  | .ld_D_E => Sys2Proof.Machine.execLd_D_E s
  | .ld_D_H => Sys2Proof.Machine.execLd_D_H s
  | .ld_D_L => Sys2Proof.Machine.execLd_D_L s
  | .ld_D_indHL => Sys2Proof.Machine.execLd_D_indHL s
  | .ld_D_A => Sys2Proof.Machine.execLd_D_A s
  | .ld_E_B => Sys2Proof.Machine.execLd_E_B s
  | .ld_E_C => Sys2Proof.Machine.execLd_E_C s
  | .ld_E_D => Sys2Proof.Machine.execLd_E_D s
  | .ld_E_E => Sys2Proof.Machine.execLd_E_E s
  | .ld_E_H => Sys2Proof.Machine.execLd_E_H s
  | .ld_E_L => Sys2Proof.Machine.execLd_E_L s
  | .ld_E_indHL => Sys2Proof.Machine.execLd_E_indHL s
  | .ld_E_A => Sys2Proof.Machine.execLd_E_A s
  | .ld_H_B => Sys2Proof.Machine.execLd_H_B s
  | .ld_H_C => Sys2Proof.Machine.execLd_H_C s
  | .ld_H_D => Sys2Proof.Machine.execLd_H_D s
  | .ld_H_E => Sys2Proof.Machine.execLd_H_E s
  | .ld_H_H => Sys2Proof.Machine.execLd_H_H s
  | .ld_H_L => Sys2Proof.Machine.execLd_H_L s
  | .ld_H_indHL => Sys2Proof.Machine.execLd_H_indHL s
  | .ld_H_A => Sys2Proof.Machine.execLd_H_A s
  | .ld_L_B => Sys2Proof.Machine.execLd_L_B s
  | .ld_L_C => Sys2Proof.Machine.execLd_L_C s
  | .ld_L_D => Sys2Proof.Machine.execLd_L_D s
  | .ld_L_E => Sys2Proof.Machine.execLd_L_E s
  | .ld_L_H => Sys2Proof.Machine.execLd_L_H s
  | .ld_L_L => Sys2Proof.Machine.execLd_L_L s
  | .ld_L_indHL => Sys2Proof.Machine.execLd_L_indHL s
  | .ld_L_A => Sys2Proof.Machine.execLd_L_A s
  | .ld_indHL_B => Sys2Proof.Machine.execLd_indHL_B s
  | .ld_indHL_C => Sys2Proof.Machine.execLd_indHL_C s
  | .ld_indHL_D => Sys2Proof.Machine.execLd_indHL_D s
  | .ld_indHL_E => Sys2Proof.Machine.execLd_indHL_E s
  | .ld_indHL_H => Sys2Proof.Machine.execLd_indHL_H s
  | .ld_indHL_L => Sys2Proof.Machine.execLd_indHL_L s
  | .halt => Sys2Proof.Machine.execHalt s
  | .ld_indHL_A => Sys2Proof.Machine.execLd_indHL_A s
  | .ld_A_B => Sys2Proof.Machine.execLd_A_B s
  | .ld_A_C => Sys2Proof.Machine.execLd_A_C s
  | .ld_A_D => Sys2Proof.Machine.execLd_A_D s
  | .ld_A_E => Sys2Proof.Machine.execLd_A_E s
  | .ld_A_H => Sys2Proof.Machine.execLd_A_H s
  | .ld_A_L => Sys2Proof.Machine.execLd_A_L s
  | .ld_A_indHL => Sys2Proof.Machine.execLd_A_indHL s
  | .ld_A_A => Sys2Proof.Machine.execLd_A_A s
  | .add_A_B => Sys2Proof.Machine.execAdd_A_B s
  | .add_A_C => Sys2Proof.Machine.execAdd_A_C s
  | .add_A_D => Sys2Proof.Machine.execAdd_A_D s
  | .add_A_E => Sys2Proof.Machine.execAdd_A_E s
  | .add_A_H => Sys2Proof.Machine.execAdd_A_H s
  | .add_A_L => Sys2Proof.Machine.execAdd_A_L s
  | .add_A_indHL => Sys2Proof.Machine.execAdd_A_indHL s
  | .add_A_A => Sys2Proof.Machine.execAdd_A_A s
  | .adc_A_B => Sys2Proof.Machine.execAdc_A_B s
  | .adc_A_C => Sys2Proof.Machine.execAdc_A_C s
  | .adc_A_D => Sys2Proof.Machine.execAdc_A_D s
  | .adc_A_E => Sys2Proof.Machine.execAdc_A_E s
  | .adc_A_H => Sys2Proof.Machine.execAdc_A_H s
  | .adc_A_L => Sys2Proof.Machine.execAdc_A_L s
  | .adc_A_indHL => Sys2Proof.Machine.execAdc_A_indHL s
  | .adc_A_A => Sys2Proof.Machine.execAdc_A_A s
  | .sub_A_B => Sys2Proof.Machine.execSub_A_B s
  | .sub_A_C => Sys2Proof.Machine.execSub_A_C s
  | .sub_A_D => Sys2Proof.Machine.execSub_A_D s
  | .sub_A_E => Sys2Proof.Machine.execSub_A_E s
  | .sub_A_H => Sys2Proof.Machine.execSub_A_H s
  | .sub_A_L => Sys2Proof.Machine.execSub_A_L s
  | .sub_A_indHL => Sys2Proof.Machine.execSub_A_indHL s
  | .sub_A_A => Sys2Proof.Machine.execSub_A_A s
  | .sbc_A_B => Sys2Proof.Machine.execSbc_A_B s
  | .sbc_A_C => Sys2Proof.Machine.execSbc_A_C s
  | .sbc_A_D => Sys2Proof.Machine.execSbc_A_D s
  | .sbc_A_E => Sys2Proof.Machine.execSbc_A_E s
  | .sbc_A_H => Sys2Proof.Machine.execSbc_A_H s
  | .sbc_A_L => Sys2Proof.Machine.execSbc_A_L s
  | .sbc_A_indHL => Sys2Proof.Machine.execSbc_A_indHL s
  | .sbc_A_A => Sys2Proof.Machine.execSbc_A_A s
  | .and_A_B => Sys2Proof.Machine.execAnd_A_B s
  | .and_A_C => Sys2Proof.Machine.execAnd_A_C s
  | .and_A_D => Sys2Proof.Machine.execAnd_A_D s
  | .and_A_E => Sys2Proof.Machine.execAnd_A_E s
  | .and_A_H => Sys2Proof.Machine.execAnd_A_H s
  | .and_A_L => Sys2Proof.Machine.execAnd_A_L s
  | .and_A_indHL => Sys2Proof.Machine.execAnd_A_indHL s
  | .and_A_A => Sys2Proof.Machine.execAnd_A_A s
  | .xor_A_B => Sys2Proof.Machine.execXor_A_B s
  | .xor_A_C => Sys2Proof.Machine.execXor_A_C s
  | .xor_A_D => Sys2Proof.Machine.execXor_A_D s
  | .xor_A_E => Sys2Proof.Machine.execXor_A_E s
  | .xor_A_H => Sys2Proof.Machine.execXor_A_H s
  | .xor_A_L => Sys2Proof.Machine.execXor_A_L s
  | .xor_A_indHL => Sys2Proof.Machine.execXor_A_indHL s
  | .xor_A_A => Sys2Proof.Machine.execXor_A_A s
  | .or_A_B => Sys2Proof.Machine.execOr_A_B s
  | .or_A_C => Sys2Proof.Machine.execOr_A_C s
  | .or_A_D => Sys2Proof.Machine.execOr_A_D s
  | .or_A_E => Sys2Proof.Machine.execOr_A_E s
  | .or_A_H => Sys2Proof.Machine.execOr_A_H s
  | .or_A_L => Sys2Proof.Machine.execOr_A_L s
  | .or_A_indHL => Sys2Proof.Machine.execOr_A_indHL s
  | .or_A_A => Sys2Proof.Machine.execOr_A_A s
  | .cp_A_B => Sys2Proof.Machine.execCp_A_B s
  | .cp_A_C => Sys2Proof.Machine.execCp_A_C s
  | .cp_A_D => Sys2Proof.Machine.execCp_A_D s
  | .cp_A_E => Sys2Proof.Machine.execCp_A_E s
  | .cp_A_H => Sys2Proof.Machine.execCp_A_H s
  | .cp_A_L => Sys2Proof.Machine.execCp_A_L s
  | .cp_A_indHL => Sys2Proof.Machine.execCp_A_indHL s
  | .cp_A_A => Sys2Proof.Machine.execCp_A_A s
  | .ret_NZ => Sys2Proof.Machine.execRet_NZ s
  | .pop_BC => Sys2Proof.Machine.execPop_BC s
  | .jp_NZ_a16 imm16 => Sys2Proof.Machine.execJp_NZ_a16 imm16 s
  | .jp_a16 imm16 => Sys2Proof.Machine.execJp_a16 imm16 s
  | .call_NZ_a16 imm16 => Sys2Proof.Machine.execCall_NZ_a16 imm16 s
  | .push_BC => Sys2Proof.Machine.execPush_BC s
  | .add_A_d8 imm8 => Sys2Proof.Machine.execAdd_A_d8 imm8 s
  | .rst_00H => Sys2Proof.Machine.execRst_00H s
  | .ret_Z => Sys2Proof.Machine.execRet_Z s
  | .ret => Sys2Proof.Machine.execRet s
  | .jp_Z_a16 imm16 => Sys2Proof.Machine.execJp_Z_a16 imm16 s
  | .prefix_CB imm8 => Sys2Proof.Machine.execPrefix_CB imm8 s
  | .call_Z_a16 imm16 => Sys2Proof.Machine.execCall_Z_a16 imm16 s
  | .call_a16 imm16 => Sys2Proof.Machine.execCall_a16 imm16 s
  | .adc_A_d8 imm8 => Sys2Proof.Machine.execAdc_A_d8 imm8 s
  | .rst_08H => Sys2Proof.Machine.execRst_08H s
  | .ret_NC => Sys2Proof.Machine.execRet_NC s
  | .pop_DE => Sys2Proof.Machine.execPop_DE s
  | .jp_NC_a16 imm16 => Sys2Proof.Machine.execJp_NC_a16 imm16 s
  | .illegal_D3 => Sys2Proof.Machine.execIllegal_D3 s
  | .call_NC_a16 imm16 => Sys2Proof.Machine.execCall_NC_a16 imm16 s
  | .push_DE => Sys2Proof.Machine.execPush_DE s
  | .sub_A_d8 imm8 => Sys2Proof.Machine.execSub_A_d8 imm8 s
  | .rst_10H => Sys2Proof.Machine.execRst_10H s
  | .ret_C => Sys2Proof.Machine.execRet_C s
  | .reti => Sys2Proof.Machine.execReti s
  | .jp_C_a16 imm16 => Sys2Proof.Machine.execJp_C_a16 imm16 s
  | .illegal_DB => Sys2Proof.Machine.execIllegal_DB s
  | .call_C_a16 imm16 => Sys2Proof.Machine.execCall_C_a16 imm16 s
  | .illegal_DD => Sys2Proof.Machine.execIllegal_DD s
  | .sbc_A_d8 imm8 => Sys2Proof.Machine.execSbc_A_d8 imm8 s
  | .rst_18H => Sys2Proof.Machine.execRst_18H s
  | .ldh_indA8_A imm8 => Sys2Proof.Machine.execLdh_indA8_A imm8 s
  | .pop_HL => Sys2Proof.Machine.execPop_HL s
  | .ld_indC_A => Sys2Proof.Machine.execLd_indC_A s
  | .illegal_E3 => Sys2Proof.Machine.execIllegal_E3 s
  | .illegal_E4 => Sys2Proof.Machine.execIllegal_E4 s
  | .push_HL => Sys2Proof.Machine.execPush_HL s
  | .and_A_d8 imm8 => Sys2Proof.Machine.execAnd_A_d8 imm8 s
  | .rst_20H => Sys2Proof.Machine.execRst_20H s
  | .add_SP_r8 imm8 => Sys2Proof.Machine.execAdd_SP_r8 imm8 s
  | .jp_HL => Sys2Proof.Machine.execJp_HL s
  | .ld_indA16_A imm16 => Sys2Proof.Machine.execLd_indA16_A imm16 s
  | .illegal_EB => Sys2Proof.Machine.execIllegal_EB s
  | .illegal_EC => Sys2Proof.Machine.execIllegal_EC s
  | .illegal_ED => Sys2Proof.Machine.execIllegal_ED s
  | .xor_A_d8 imm8 => Sys2Proof.Machine.execXor_A_d8 imm8 s
  | .rst_28H => Sys2Proof.Machine.execRst_28H s
  | .ldh_A_indA8 imm8 => Sys2Proof.Machine.execLdh_A_indA8 imm8 s
  | .pop_AF => Sys2Proof.Machine.execPop_AF s
  | .ld_A_indC => Sys2Proof.Machine.execLd_A_indC s
  | .di => Sys2Proof.Machine.execDi s
  | .illegal_F4 => Sys2Proof.Machine.execIllegal_F4 s
  | .push_AF => Sys2Proof.Machine.execPush_AF s
  | .or_A_d8 imm8 => Sys2Proof.Machine.execOr_A_d8 imm8 s
  | .rst_30H => Sys2Proof.Machine.execRst_30H s
  | .ld_HL_SPr8 imm8 => Sys2Proof.Machine.execLd_HL_SPr8 imm8 s
  | .ld_SP_HL => Sys2Proof.Machine.execLd_SP_HL s
  | .ld_A_indA16 imm16 => Sys2Proof.Machine.execLd_A_indA16 imm16 s
  | .ei => Sys2Proof.Machine.execEi s
  | .illegal_FC => Sys2Proof.Machine.execIllegal_FC s
  | .illegal_FD => Sys2Proof.Machine.execIllegal_FD s
  | .cp_A_d8 imm8 => Sys2Proof.Machine.execCp_A_d8 imm8 s
  | .rst_38H => Sys2Proof.Machine.execRst_38H s

end Sys2Proof.Machine
end

