-- ==== Sys2Proof/Machine/Fetch.lean ====
section
/-!
DEFINITION. Fetching an instruction's bytes and the `decode` accessor (30_encoding.md R106, R107).
-/
namespace Sys2Proof.Machine

/-- The raw bytes of the instruction at `p`: the opcode byte, and the operand bytes its entry's length asks for, at
ascending addresses modulo 2^16, through the same routing as any load (30_encoding.md R106, R107, 20_memory.md R78). -/
def rawBytes (m : Memory) (p : Word) : List Byte :=
  match (opcodeEntry (m.readByte p)).format with
  | .OP => [m.readByte p]
  | .OP_D8 => [m.readByte p, m.readByte (p + 1)]
  | .OP_D16 => [m.readByte p, m.readByte (p + 1), m.readByte (p + 2)]

/-- The `decode(p)` accessor: the Decoded Instruction at any address, a read-only projection of memory
(30_encoding.md R106, 60_exceptions.md R615). -/
def State.decodeAt (s : State) (p : Word) : DecodedInstr := decodedOf (s.readByte p) (rawBytes s.mem p)

end Sys2Proof.Machine
end

