-- ==== Sys2Proof/Machine/Step.lean ====
section
/-!
DEFINITION. One step (40_step.md R130), and placing an instruction where the step fetches.
-/
namespace Sys2Proof.Machine

/-- `step`: decode the bytes at `pc`, then run the instruction; the meaning makes the trap test, then the advance,
then the handler (40_step.md R130). -/
def step (s : State) : Host.Outcome State Fault Refusal :=
  match decode (rawBytes s.mem s.pc) with
  | .ok (i, _) => exec i s
  | .error e => .refused (.undecodable e)

/-- Write bytes at ascending addresses from `p`, modulo 2^16. -/
def writeBytes (m : Memory) (p : Word) : List Byte → Memory
  | [] => m
  | v :: vs => writeBytes (m.writeByte p v) (p + 1) vs

/-- Whether a byte written at each of the three addresses from `p` is read back there. -/
def fetchable (p : Word) : Bool := (keyOf p).isSome && (keyOf (p + 1)).isSome && (keyOf (p + 2)).isSome

/-- `s` with the instruction word `w` of `nbits` bits at `pc`, the bits above 0 up to three bytes. Where one of the
three addresses is unmapped, so that a write there is dropped, `pc` is first put at 0x0100 (notes/assumptions/18.md). -/
def State.withFetchWord (s : State) (nbits w : Nat) : State :=
  let p := if fetchable s.pc then s.pc else 0x0100
  { s with pc := p, mem := writeBytes s.mem p (tableWordBytes nbits w) }

end Sys2Proof.Machine
end

