-- ==== Sys2Proof/Machine/Construct.lean ====
section
/-!
DEFINITION. `construct`, the machine's only reset, with its arguments (70_reset_and_hazards.md R640 to R644).
`State.reset` is the state it gives for a zeroed ROM, `RAM_INIT` all zero and the default `IO_SEED`.
-/
namespace Sys2Proof.Machine

/-- `RAM_INIT`: the reset contents of the five RAM stores, any values (70_reset_and_hazards.md R642). -/
structure RamInit where
  vram : Vector Byte 0x2000
  cram : Vector Byte 0x2000
  wram : Vector Byte 0x2000
  oam  : Vector Byte 0xA0
  zram : Vector Byte 0x100
deriving DecidableEq, Repr

/-- Fill a store from its first byte on with a list of bytes. -/
def fillFrom (m : Memory) (k : Nat) : List Byte → Memory
  | [] => m
  | v :: vs => fillFrom (m.writeKey k v) (k + 1) vs

/-- Step (3) of R644: the five RAM stores. -/
def fillRam (m : Memory) (r : RamInit) : Memory :=
  let m := fillFrom m Store.vram.base r.vram.toList
  let m := fillFrom m Store.cram.base r.cram.toList
  let m := fillFrom m Store.wram.base r.wram.toList
  let m := fillFrom m Store.oam.base r.oam.toList
  fillFrom m Store.zram.base r.zram.toList

/-- `IO_SEED`: `write_byte(a, v)` for each pair, in order (70_reset_and_hazards.md R643). -/
def seedIo (m : Memory) : List (Word × Byte) → Memory
  | [] => m
  | (a, v) :: rest => seedIo (m.writeByte a v) rest

/-- "pairs `(a, v)` with `a` in 0xFF00 to 0xFFFF ..., with pairwise distinct addresses" (70_reset_and_hazards.md R643). -/
def seedOk : List (Word × Byte) → Bool
  | [] => true
  | (a, _) :: rest => decide (0xFF00 ≤ a) && rest.all (fun p => p.1 != a) && seedOk rest

/-- `construct(ROM_IMAGE)` with `RAM_INIT`, `IO_SEED` and the policy parameters (70_reset_and_hazards.md R640, R644).
`none`: no machine is built, for an image shorter than 0x8000 bytes (R641, D11), and for a list that is no `IO_SEED`
(notes/assumptions/24.md). Of a longer image the first 0x8000 bytes are used. -/
def construct (cfg : Config) (romImage : List Byte) (ramInit : RamInit) (ioSeed : List (Word × Byte)) : Option State :=
  if 0x8000 ≤ romImage.length ∧ seedOk ioSeed = true then
    let m := fillFrom [] Store.rom.base (romImage.take 0x8000)
    some { State.reset with mem := seedIo (fillRam m ramInit) ioSeed, cfg := cfg }
  else none

end Sys2Proof.Machine
end

