-- ==== Sys2Proof/Machine/Engine.lean ====
section
/-!
DEFINITION. The Execution Engine as 40_step.md R133 describes it: dispatch on the Action tag of the table entry, with
the entry's Locations. `exec` names its handler per instruction; this one reads the table. A statement says they agree.
-/
namespace Sys2Proof.Machine

/-- Run the handler of an entry's Action on the entry's operands; an entry with the wrong operands is a contract
violation (40_step.md R133, R144). -/
def dispatch (e : Entry) (i : Instr) (s : State) : Host.Outcome State Fault Refusal :=
  match e.action, e.cond, e.operands with
  | .nop, none, [] => handleNop i s
  | .ld, none, [dest, src] => handleLd i dest src s
  | .ld16, none, [dest, src] => handleLd16 i dest src s
  | .jp, some c, [target] => handleJp i c target s
  | .cpl, none, [] => handleCpl i s
  | .ccf, none, [] => handleCcf i s
  | .inc, none, [l] => handleInc i l s
  | .dec, none, [l] => handleDec i l s
  | .inc16, none, [l] => handleInc16 i l s
  | .dec16, none, [l] => handleDec16 i l s
  | .xor, none, [dest, src] => handleXor i dest src s
  | .add, _, _ | .add16, _, _ | .adc, _, _ | .sub, _, _ | .sbc, _, _ | .and, _, _ | .or, _, _ | .cp, _, _ =>
    handleUnhandled i s
  | .unimplemented, _, _ => handleUnimplemented i s
  | .illegal, _, _ => handleIllegal i s
  | _, _, _ => raise .contractViolation i s

end Sys2Proof.Machine
end

