-- ==== Sys2Proof/Safety.lean ====
section
/-!
DEFINITION. The terms the claims use: the invariant of the machine, the outcome of a step, and what an instruction
may write.
-/
namespace Sys2Proof

/-- The Action of an entry that executes (40_step.md R133). -/
def Action.executes : Action → Bool
  | .nop | .ld | .ld16 | .jp | .cpl | .ccf | .inc | .dec | .inc16 | .dec16 | .xor => true
  | .add | .add16 | .adc | .sub | .sbc | .and | .or | .cp | .unimplemented | .illegal => false

end Sys2Proof

namespace Sys2Proof.Machine

/-- The invariant of the machine: "bits 3 to 0 of `F` are 0 in every state" (10_state.md R23), and memory is in its
canonical form. -/
def State.Inv (s : State) : Prop := s.f &&& 0x0F = 0 ∧ s.mem.wf = true

/-- A step that completes: it gives a next state. -/
def Completes (o : Host.Outcome State Fault Refusal) : Prop := ∃ t, o = .next t

/-- A step that traps with a code of 60_exceptions.md R600: it gives a record and no next state (R608). -/
def TrapsWith (code : Nat) (o : Host.Outcome State Fault Refusal) : Prop := ∃ r, o = .fault r ∧ r.code = code

/-- `exec i s` raises `UnimplementedAction` with the record of 60_exceptions.md R604 for this opcode and Action. -/
def TrapsUnimplemented (i : Instr) (opcode : Byte) (action : Action) (s : State) : Prop :=
  exec i s = .fault (.unimplementedAction
    { opcode := opcode, pc := s.pc, action := action,
      instr := { action := action, cond := none, operands := i.entry.operands, length := (encode i).length,
                 cycles := Config.cycles opcode, raw := encode i },
      snapshot := { a := s.a, f := s.f, b := s.b, c := s.c, d := s.d, e := s.e, h := s.h, l := s.l, sp := s.sp,
                    pc := s.pc } })

/-- The address of a place in memory. -/
def Place.address : Place → Option Word
  | .byteAt a | .wordAt a => some a
  | .reg8 _ | .reg16 _ | .imm8 _ | .imm16 _ | .missing => none

/-- The address an instruction stores a byte to, if it stores: its destination Location, resolved where its handler
resolves it, after the advance and after the source (40_step.md R145). -/
def storeAddress (i : Instr) (s : State) : Option Word :=
  match i.entry.action, i.entry.operands with
  | .ld, [dest, src] => (resolve i dest (resolve i src (advance i s)).2).1.address
  | .xor, [dest, src] => (resolve i dest (resolve i src (advance i s)).2).1.address
  | .inc, [l] => (resolve i l (advance i s)).1.address
  | .dec, [l] => (resolve i l (advance i s)).1.address
  | _, _ => none

/-- The two halves of a pair that are general registers (10_state.md R25). -/
def pairRegs : Pair → List Reg8
  | .AF => [.A]
  | .BC => [.B, .C]
  | .DE => [.D, .E]
  | .HL => [.H, .L]

/-- The registers a destination Location writes (10_state.md R36). -/
def destRegs : Loc → List Reg8
  | .reg8 r => [r]
  | .reg16 rr => pairRegs rr
  | .indByte _ | .indC | .indHLInc | .indHLDec | .imm8 | .imm16 | .immIndByte8 | .immIndByte16 | .indWord _
  | .immIndWord8 | .immIndWord16 => []

/-- The registers resolving a Location writes (40_step.md R139). -/
def resolveRegs : Loc → List Reg8
  | .indHLInc | .indHLDec => [.H, .L]
  | .reg8 _ | .reg16 _ | .indByte _ | .indC | .imm8 | .imm16 | .immIndByte8 | .immIndByte16 | .indWord _
  | .immIndWord8 | .immIndWord16 => []

/-- The general registers an instruction may write: the `written by` column of 10_state.md R36. -/
def writtenRegs (i : Instr) : List Reg8 :=
  match i.entry.action with
  | .ld | .ld16 | .inc | .dec | .inc16 | .dec16 | .xor =>
    (i.entry.operands.take 1).flatMap destRegs ++ i.entry.operands.flatMap resolveRegs
  | .cpl => [.A]
  | .nop | .jp | .ccf | .add | .add16 | .adc | .sub | .sbc | .and | .or | .cp | .unimplemented | .illegal => []

end Sys2Proof.Machine
end

