-- ==== Sys2Proof/Certificates/Slice0/Obligations.lean ====
section
/-!
DEFINITION. The statements for the provers, in the order of OBLIGATIONS.json.
-/
open Sys2Proof Sys2Proof.Machine

/-- O1. The bytes at `pc` decide the step (40_step.md R130 with 30_encoding.md R106); the advance of `pc` is inside `exec`.
Operand bytes wrap modulo 2^16: the spec's own decision D9 (notes/assumptions/7.md). -/
def Obligations.StepRunsDecoded : Prop :=
  ∀ s : State,
    (∀ i : Instr, (∀ k (hk : k < (encode i).length), s.readByte (s.pc + BitVec.ofNat 16 k) = (encode i)[k]) →
      step s = exec i s ∧ s.decodeAt s.pc = i.decoded) ∧
    (∃ i : Instr, (∀ k (hk : k < (encode i).length), s.readByte (s.pc + BitVec.ofNat 16 k) = (encode i)[k]) ∧
      decode (rawBytes s.mem s.pc) = .ok (i, []))

/-- O2. No bit of an encoding is dropped, for every constructor and every operand value (30_encoding.md R101 to R108).
The pairing of bytes and rows is the spec's own decision D1 (notes/assumptions/1.md). -/
def Obligations.DecodeOfEncode : Prop :=
  ∀ (i : Instr) (rest : List Byte), i.wellFormed = true ∧ decode (encode i ++ rest) = .ok (i, rest)

/-- O3. The other direction of the round trip: each encoding has one meaning and each instruction one encoding. -/
def Obligations.EncodeOfDecode : Prop :=
  ∀ (bs : List Byte) (i : Instr) (rest : List Byte), decode bs = .ok (i, rest) → encode i ++ rest = bs

/-- O4. "Decode never fails" (30_encoding.md R106) of the machine's fetch; the errors on short lists are the model's own
(notes/assumptions/19.md). -/
def Obligations.DecodeFailsOnlyWhenShort : Prop :=
  (∀ bs : List Byte, (∃ e, decode bs = .error e) ↔
      bs = [] ∨ ∃ b0 rest, bs = b0 :: rest ∧ bs.length < (opcodeEntry b0).format.length) ∧
    (∀ (m : Memory) (p : Word), ∃ i, decode (rawBytes m p) = .ok (i, []))

/-- O5. A sanity check of the decoder on encodings written out from 30_encoding.md section 6. -/
def Obligations.SampleWords : Prop :=
  decode [0x00] = .ok (.nop, []) ∧
    decode [0x01, 0x23, 0xC1] = .ok (.ld_BC_d16 0xC123, []) ∧
    decode [0x22] = .ok (.ld_indHLinc_A, []) ∧
    decode [0x34] = .ok (.inc_indHL, []) ∧
    decode [0x3E, 0x42] = .ok (.ld_A_d8 0x42, []) ∧
    decode [0x2F] = .ok (.cpl, []) ∧
    decode [0x3F] = .ok (.ccf, []) ∧
    decode [0x46] = .ok (.ld_B_indHL, []) ∧
    decode [0x76] = .ok (.halt, []) ∧
    decode [0x80] = .ok (.add_A_B, []) ∧
    decode [0xAF] = .ok (.xor_A_A, []) ∧
    decode [0xC3, 0x34, 0x12] = .ok (.jp_a16 0x1234, []) ∧
    decode [0xCB, 0x7C] = .ok (.prefix_CB 0x7C, []) ∧
    decode [0xD3] = .ok (.illegal_D3, []) ∧
    decode [0xE0, 0x42] = .ok (.ldh_indA8_A 0x42, [])

/-- O6. "bits 3 to 0 of `F` are 0 in every state" (10_state.md R23), and memory stays canonical (notes/assumptions/16.md). -/
def Obligations.StepKeepsInvariant : Prop :=
  ∀ s t : State, s.Inv → step s = .next t → t.Inv

/-- O7. The base of the invariant. -/
def Obligations.ResetMeetsInvariant : Prop :=
  State.reset.Inv

/-- O8. "A model should make the contract a well-formedness check on the table and prove it once" (40_step.md R144); the
third trap kind is unreachable (60_exceptions.md R603). -/
def Obligations.NoContractViolation : Prop :=
  (∀ b0 : Byte, (opcodeEntry b0).wellFormed = true) ∧
    (∀ (i : Instr) (s : State) (r : TrapRecord), exec i s ≠ .fault (.contractViolation r)) ∧
    (∀ (s : State) (r : Refusal), step s ≠ .refused r)

/-- O9. R600 and the table of 40_step.md R133. The numbers 1 and 2 are the spec's own decision D17 (notes/assumptions/14.md). -/
def Obligations.OutcomeByOpcodeAlone : Prop :=
  (∀ s : State,
      (Completes (step s) ↔ (opcodeEntry (s.readByte s.pc)).action.executes = true) ∧
      (TrapsWith 1 (step s) ↔ (opcodeEntry (s.readByte s.pc)).action = .illegal) ∧
      (TrapsWith 2 (step s) ↔ (opcodeEntry (s.readByte s.pc)).action.executes = false ∧
        (opcodeEntry (s.readByte s.pc)).action ≠ .illegal)) ∧
    (opcodeTable.filter fun e => e.action.executes).length = 128 ∧
    (opcodeTable.filter fun e => e.action == .illegal).length = 11 ∧ opcodeTable.length = 256

/-- O10. The per-instruction arms and the table-driven dispatch of 40_step.md R133 agree. -/
def Obligations.DispatchOnAction : Prop :=
  ∀ (i : Instr) (s : State), exec i s = dispatch i.entry i s

/-- O11. R36: `sp` is written by nothing (10_state.md R27, decision D3, notes/assumptions/2.md); the parameters are constants
(R33, notes/assumptions/4.md). -/
def Obligations.SpNeverWritten : Prop :=
  ∀ s t : State, step s = .next t → t.sp = s.sp ∧ t.cfg = s.cfg

/-- O12. "no Action that executes reads or writes `sp`" (10_state.md R27, decision D3, notes/assumptions/2.md). -/
def Obligations.SpNeverRead : Prop :=
  ∀ (s t : State) (v : Word), step s = .next t → step { s with sp := v } = .next { t with sp := v }

/-- O13. The frame of the flag byte (10_state.md R37). CARRY kept by INC and DEC, and ZERO kept by CCF, are the spec's own
decisions D16 and D15 (notes/assumptions/13.md). -/
def Obligations.FlagFrame : Prop :=
  ∀ (i : Instr) (s t : State), exec i s = .next t →
    (i.entry.action ∈ [.nop, .ld, .ld16, .jp, .inc16, .dec16] → t.f = s.f) ∧
    (i.entry.action = .cpl → s.cfg.cplSetsNH = false → t.f = s.f) ∧
    (i.entry.action ∈ [.inc, .dec] → t.flag .C = s.flag .C) ∧
    (i.entry.action = .ccf → t.flag .Z = s.flag .Z) ∧
    (i.entry.action = .cpl → t.flag .Z = s.flag .Z ∧ t.flag .C = s.flag .C)

/-- O14. At most one data write per step, at the address the destination Location resolves to (40_step.md R149). The store
address is computed by the function the handlers use. -/
def Obligations.MemoryFrame : Prop :=
  ∀ (i : Instr) (s t : State), exec i s = .next t →
    (∀ w a : Word, storeAddress i s = some w → keyOf a ≠ keyOf w → t.readByte a = s.readByte a) ∧
    (storeAddress i s = none → t.mem = s.mem ∧ ∀ a : Word, t.readByte a = s.readByte a)

/-- O15. The addresses of 40_step.md R137 to R142, and that only the listed opcodes store. `HIGH_BASE` is a parameter
(decision D7, notes/assumptions/4.md). -/
def Obligations.StoreAddresses : Prop :=
  (∀ (s : State) (imm8 : Byte) (imm16 : Word),
      storeAddress .ld_indHL_B s = some (pack s.h s.l) ∧
      storeAddress .ld_indHL_C s = some (pack s.h s.l) ∧
      storeAddress .ld_indHL_D s = some (pack s.h s.l) ∧
      storeAddress .ld_indHL_E s = some (pack s.h s.l) ∧
      storeAddress .ld_indHL_H s = some (pack s.h s.l) ∧
      storeAddress .ld_indHL_L s = some (pack s.h s.l) ∧
      storeAddress .ld_indHL_A s = some (pack s.h s.l) ∧
      storeAddress (.ld_indHL_d8 imm8) s = some (pack s.h s.l) ∧
      storeAddress .ld_indHLinc_A s = some (pack s.h s.l) ∧
      storeAddress .ld_indHLdec_A s = some (pack s.h s.l) ∧
      storeAddress .inc_indHL s = some (pack s.h s.l) ∧
      storeAddress .dec_indHL s = some (pack s.h s.l) ∧
      storeAddress .ld_indBC_A s = some (pack s.b s.c) ∧
      storeAddress .ld_indDE_A s = some (pack s.d s.e) ∧
      storeAddress .ld_indC_A s = some (pack 0 s.c) ∧
      storeAddress (.ldh_indA8_A imm8) s = some (s.cfg.highBase + pack 0 imm8) ∧
      storeAddress (.ld_indA16_A imm16) s = some imm16) ∧
    (∀ (i : Instr) (s : State), storeAddress i s ≠ none → i.opcode ∈
      ([0x02, 0x12, 0x22, 0x32, 0x34, 0x35, 0x36, 0x70, 0x71, 0x72, 0x73, 0x74, 0x75, 0x77, 0xE0, 0xE2, 0xEA] :
        List Byte))

/-- O16. The frame of the general registers (10_state.md R36): the destination register or pair, `H` and `L` for `HL+` and `HL-`,
`A` for `CPL`. -/
def Obligations.RegisterFrame : Prop :=
  ∀ (i : Instr) (s t : State) (r : Reg8), exec i s = .next t → r ∉ writtenRegs i → t.reg8 r = s.reg8 r

/-- O17. 20_memory.md R84 (a) to (e). The second half of (c), a write through the mirror, is the spec's own inference, "[derived:
from rule R61, same store]". That memory is canonical (the invariant of O6) is the form of the model's memory list, the
model's choice (notes/assumptions/16.md). -/
def Obligations.MmuLaws : Prop :=
  ∀ (s : State) (a : Word) (v : Byte), s.mem.wf = true →
    (¬ (0xFEA0 ≤ a.toNat ∧ a.toNat ≤ 0xFEFF) → (s.writeByte a v).readByte a = v) ∧
    (0xFEA0 ≤ a.toNat ∧ a.toNat ≤ 0xFEFF → s.readByte a = 0 ∧ (s.writeByte a v).readByte a = 0) ∧
    (0xC000 ≤ a.toNat ∧ a.toNat ≤ 0xDDFF →
      (s.writeByte a v).readByte (a + 0x2000) = v ∧ (s.writeByte (a + 0x2000) v).readByte a = v) ∧
    (∀ b : Word, b ≠ a → ¬ (0xC000 ≤ a.toNat ∧ a.toNat ≤ 0xDDFF ∧ b = a + 0x2000) →
      ¬ (0xC000 ≤ b.toNat ∧ b.toNat ≤ 0xDDFF ∧ a = b + 0x2000) → (s.writeByte a v).readByte b = s.readByte b) ∧
    ((s.writeByte 0x1234 0x67).writeByte 0x1235 0x79).readWord 0x1234 = 0x7967

/-- O18. 20_memory.md R66. Its clauses on `INC (HL)` and `DEC (HL)` and on a fetch are the spec's own inferences, "[derived: from
rules R62, R63 and 46_incdec.md rules R330, R331]" and "[derived: from rule R78]". The numbers of `F` rest on the spec's own
decisions D4 for the bit places (notes/assumptions/3.md) and D16 for CARRY kept (notes/assumptions/13.md); the opcode
0x00 of `NOP` is printed by the source. -/
def Obligations.UnmappedRange : Prop :=
  ∀ (s : State) (a : Word) (v : Byte), 0xFEA0 ≤ a.toNat → a.toNat ≤ 0xFEFF →
    s.readByte a = 0x00 ∧ s.writeByte a v = s ∧
    (pack s.h s.l = a →
      exec .inc_indHL s = .next { s with f := s.f &&& 0x10, pc := s.pc + 1 } ∧
      exec .dec_indHL s = .next { s with f := 0x60 ||| (s.f &&& 0x10), pc := s.pc + 1 }) ∧
    (s.pc = a → step s = .next { s with pc := s.pc + 1 })

/-- O19. 20_memory.md R69 to R72. The wrap at 0xFFFF is the spec's own decision D9 (notes/assumptions/7.md); canonical
memory is the model's choice (notes/assumptions/16.md). -/
def Obligations.WordAccess : Prop :=
  ∀ (s : State) (a v : Word), s.mem.wf = true →
    s.readWord a = pack (s.readByte (a + 1)) (s.readByte a) ∧
    s.writeWord a v = (s.writeByte a (v.extractLsb' 0 8)).writeByte (a + 1) (v.extractLsb' 8 8) ∧
    (s.readWord a).extractLsb' 0 8 = s.readByte a ∧ (s.readWord a).extractLsb' 8 8 = s.readByte (a + 1) ∧
    (¬ (0xFEA0 ≤ a.toNat ∧ a.toNat ≤ 0xFEFF) → ¬ (0xFEA0 ≤ (a + 1).toNat ∧ (a + 1).toNat ≤ 0xFEFF) →
      (s.writeWord a v).readWord a = v)

/-- O20. 20_memory.md R61, row by row; the ranges cover all addresses. The offsets are "this spec's reading" of the source,
marked [derived] in R61; that the top of working RAM has no alias is marked "[derived: from the table]"; the sizes every
offset lies inside are those of 10_state.md R20, "[derived: from rule R61]". -/
def Obligations.RouteTable : Prop :=
  ∀ a : Word,
    (a.toNat ≤ 0x7FFF → route a = some (.rom, a.toNat)) ∧
    (0x8000 ≤ a.toNat → a.toNat ≤ 0x9FFF → route a = some (.vram, a.toNat - 0x8000)) ∧
    (0xA000 ≤ a.toNat → a.toNat ≤ 0xBFFF → route a = some (.cram, a.toNat - 0xA000)) ∧
    (0xC000 ≤ a.toNat → a.toNat ≤ 0xDFFF → route a = some (.wram, a.toNat - 0xC000)) ∧
    (0xE000 ≤ a.toNat → a.toNat ≤ 0xFDFF → route a = some (.wram, a.toNat - 0xE000)) ∧
    (0xFE00 ≤ a.toNat → a.toNat ≤ 0xFE9F → route a = some (.oam, a.toNat - 0xFE00)) ∧
    (0xFEA0 ≤ a.toNat → a.toNat ≤ 0xFEFF → route a = none) ∧
    (0xFF00 ≤ a.toNat → route a = some (.zram, a.toNat - 0xFF00)) ∧
    (∀ (st : Store) (o : Nat), route a = some (st, o) → o < st.size) ∧
    (∀ o : Nat, route a = some (.wram, o) → 0x1E00 ≤ o → a.toNat = 0xC000 + o)

/-- O21. The canonical form of the memory list, the model's own choice (notes/assumptions/16.md). -/
def Obligations.MemoryCanonical : Prop :=
  (∀ m m' : Memory, m.wf = true → m'.wf = true → (∀ a : Word, m.readByte a = m'.readByte a) → m = m') ∧
    (∀ (m : Memory) (a : Word) (v : Byte), m.wf = true → (m.writeByte a v).wf = true)

/-- O22. 10_state.md R24 on every flag byte that keeps R23. The masks are the spec's own decision D4 (notes/assumptions/3.md);
the clauses of R24 are stated by `flagMask`. -/
def Obligations.FlagOperations : Prop :=
  ∀ (fb : Byte) (f g : Flag) (b : Bool), fb &&& 0x0F = 0 →
    hasFlag fb f = decide (fb &&& flagMask f ≠ 0) ∧
    setFlag fb f b = (if b then fb ||| flagMask f else fb &&& ~~~flagMask f) ∧
    flipFlag fb f = fb ^^^ flagMask f ∧
    hasFlag (setFlag fb f b) g = (if g = f then b else hasFlag fb g) ∧
    hasFlag (flipFlag fb f) g = (if g = f then !hasFlag fb g else hasFlag fb g)

/-- O23. 10_state.md R26, with the reads of R25. -/
def Obligations.PairViews : Prop :=
  ∀ (s : State) (v : Word),
    s.pair .AF = pack s.a s.f ∧ s.pair .BC = pack s.b s.c ∧ s.pair .DE = pack s.d s.e ∧ s.pair .HL = pack s.h s.l ∧
    s.setPair .AF v = { s with a := (unpack v).1, f := (unpack v).2 &&& 0xF0 } ∧
    s.setPair .BC v = { s with b := (unpack v).1, c := (unpack v).2 } ∧
    s.setPair .DE v = { s with d := (unpack v).1, e := (unpack v).2 } ∧
    s.setPair .HL v = { s with h := (unpack v).1, l := (unpack v).2 } ∧
    (s.setPair .BC v).pair .BC = v ∧ (s.setPair .DE v).pair .DE = v ∧ (s.setPair .HL v).pair .HL = v ∧
    (s.setPair .AF v).pair .AF = v &&& 0xFFF0 ∧
    s.setPair .BC (s.pair .BC) = s ∧ s.setPair .DE (s.pair .DE) = s ∧ s.setPair .HL (s.pair .HL) = s ∧
    (s.f &&& 0x0F = 0 → s.setPair .AF (s.pair .AF) = s) ∧
    (∀ e ∈ opcodeTable, Loc.reg16 .AF ∉ e.operands)

/-- O24. 00_scope.md R8. -/
def Obligations.PackUnpack : Prop :=
  ∀ (hi lo : Byte) (v : Word),
    (pack hi lo).toNat = hi.toNat * 256 + lo.toNat ∧
    (pack hi lo).extractLsb' 8 8 = hi ∧ (pack hi lo).extractLsb' 0 8 = lo ∧
    unpack v = (v.extractLsb' 8 8, v.extractLsb' 0 8) ∧
    pack (unpack v).1 (unpack v).2 = v ∧ unpack (pack hi lo) = (hi, lo)

/-- O25. The register rows of 10_state.md R35. The parameters' values are the spec's defaults (notes/assumptions/4.md). -/
def Obligations.ResetRegisters : Prop :=
  State.reset.a = 0x01 ∧ State.reset.f = 0xB0 ∧ State.reset.b = 0x00 ∧ State.reset.c = 0x13 ∧ State.reset.d = 0x00 ∧
    State.reset.e = 0xD8 ∧ State.reset.h = 0x01 ∧ State.reset.l = 0x4D ∧ State.reset.sp = 0xFFFE ∧
    State.reset.pc = 0x0100 ∧ State.reset.pair .AF = 0x01B0 ∧ State.reset.pair .BC = 0x0013 ∧
    State.reset.pair .DE = 0x00D8 ∧ State.reset.pair .HL = 0x014D ∧
    State.reset.cfg = { cplSetsNH := false, ccfNhValue := true, highBase := 0x0000 }

/-- O26. 10_state.md R35 for every `ROM_IMAGE`, `RAM_INIT` and `IO_SEED` (70_reset_and_hazards.md R641 to R644), whose pairs row is
"[derived: from rule R25]". That these are arguments is the spec's own decision D11 to D13 (notes/assumptions/9.md, 10.md,
11.md). The parameters in `cfg` (notes/assumptions/4.md) and the canonical memory in `Inv` (notes/assumptions/16.md) are
the model's choice. -/
def Obligations.ConstructState : Prop :=
  ∀ (cfg : Config) (rom : List Byte) (ram : RamInit) (seed : List (Word × Byte)) (s : State),
    construct cfg rom ram seed = some s →
    s.a = 0x01 ∧ s.f = 0xB0 ∧ s.b = 0x00 ∧ s.c = 0x13 ∧ s.d = 0x00 ∧ s.e = 0xD8 ∧ s.h = 0x01 ∧ s.l = 0x4D ∧
    s.pair .AF = 0x01B0 ∧ s.pair .BC = 0x0013 ∧ s.pair .DE = 0x00D8 ∧ s.pair .HL = 0x014D ∧
    s.sp = 0xFFFE ∧ s.pc = 0x0100 ∧ s.cfg = cfg ∧ s.Inv ∧
    (∀ k, k < 0x8000 → rom[k]? = some (s.readByte (BitVec.ofNat 16 k))) ∧
    (∀ k (hk : k < 0x2000), s.readByte (BitVec.ofNat 16 (0x8000 + k)) = ram.vram[k]) ∧
    (∀ k (hk : k < 0x2000), s.readByte (BitVec.ofNat 16 (0xA000 + k)) = ram.cram[k]) ∧
    (∀ k (hk : k < 0x2000), s.readByte (BitVec.ofNat 16 (0xC000 + k)) = ram.wram[k]) ∧
    (∀ k (hk : k < 0xA0), s.readByte (BitVec.ofNat 16 (0xFE00 + k)) = ram.oam[k]) ∧
    (∀ p ∈ seed, s.readByte p.1 = p.2) ∧
    (∀ k (hk : k < 0x100), (∀ p ∈ seed, p.1 ≠ BitVec.ofNat 16 (0xFF00 + k)) →
      s.readByte (BitVec.ofNat 16 (0xFF00 + k)) = ram.zram[k])

/-- O27. The length rule is the spec's own decision D11 (notes/assumptions/9.md); refusing a list that is no `IO_SEED` is the
model's (notes/assumptions/24.md). -/
def Obligations.ConstructRefusal : Prop :=
  ∀ (cfg : Config) (rom : List Byte) (ram : RamInit) (seed : List (Word × Byte)),
    ((construct cfg rom ram seed).isSome = true ↔
      0x8000 ≤ rom.length ∧ (∀ p ∈ seed, 0xFF00 ≤ p.1) ∧ seed.Pairwise fun p q => p.1 ≠ q.1) ∧
    (0x8000 ≤ rom.length → construct cfg rom ram seed = construct cfg (rom.take 0x8000) ram seed)

/-- O28. The choice of `ROM_IMAGE`, `RAM_INIT` and `IO_SEED` is the model's (notes/assumptions/10.md, 11.md). -/
def Obligations.ResetIsConstruct : Prop :=
  construct defaultConfig (List.replicate 0x8000 0x00)
      { vram := Vector.replicate _ 0x00, cram := Vector.replicate _ 0x00, wram := Vector.replicate _ 0x00,
        oam := Vector.replicate _ 0x00, zram := Vector.replicate _ 0x00 } ioSeedDefault = some State.reset

/-- O29. 41_nop.md R200: opcode 0x00, the whole next state. -/
def Obligations.NopResult : Prop :=
  ∀ s : State, encode .nop = [0x00] ∧ exec .nop s = .next { s with pc := s.pc + 1 }

/-- O30. 42_ld8.md R210 on the rows that load `A`: no flag, no other register and no memory byte changes. -/
def Obligations.LdRegisterA : Prop :=
  ∀ (s : State) (imm8 : Byte),
    exec .ld_A_B s = .next { s with a := s.b, pc := s.pc + 1 } ∧
    exec .ld_A_C s = .next { s with a := s.c, pc := s.pc + 1 } ∧
    exec .ld_A_D s = .next { s with a := s.d, pc := s.pc + 1 } ∧
    exec .ld_A_E s = .next { s with a := s.e, pc := s.pc + 1 } ∧
    exec .ld_A_H s = .next { s with a := s.h, pc := s.pc + 1 } ∧
    exec .ld_A_L s = .next { s with a := s.l, pc := s.pc + 1 } ∧
    exec .ld_A_indHL s = .next { s with a := s.readByte (pack s.h s.l), pc := s.pc + 1 } ∧
    exec .ld_A_A s = .next { s with pc := s.pc + 1 } ∧
    exec (.ld_A_d8 imm8) s = .next { s with a := imm8, pc := s.pc + 2 }

/-- O31. 42_ld8.md R210 on the rows that load `B`: no flag, no other register and no memory byte changes. -/
def Obligations.LdRegisterB : Prop :=
  ∀ (s : State) (imm8 : Byte),
    exec .ld_B_B s = .next { s with pc := s.pc + 1 } ∧
    exec .ld_B_C s = .next { s with b := s.c, pc := s.pc + 1 } ∧
    exec .ld_B_D s = .next { s with b := s.d, pc := s.pc + 1 } ∧
    exec .ld_B_E s = .next { s with b := s.e, pc := s.pc + 1 } ∧
    exec .ld_B_H s = .next { s with b := s.h, pc := s.pc + 1 } ∧
    exec .ld_B_L s = .next { s with b := s.l, pc := s.pc + 1 } ∧
    exec .ld_B_indHL s = .next { s with b := s.readByte (pack s.h s.l), pc := s.pc + 1 } ∧
    exec .ld_B_A s = .next { s with b := s.a, pc := s.pc + 1 } ∧
    exec (.ld_B_d8 imm8) s = .next { s with b := imm8, pc := s.pc + 2 }

/-- O32. 42_ld8.md R210 on the rows that load `C`: no flag, no other register and no memory byte changes. -/
def Obligations.LdRegisterC : Prop :=
  ∀ (s : State) (imm8 : Byte),
    exec .ld_C_B s = .next { s with c := s.b, pc := s.pc + 1 } ∧
    exec .ld_C_C s = .next { s with pc := s.pc + 1 } ∧
    exec .ld_C_D s = .next { s with c := s.d, pc := s.pc + 1 } ∧
    exec .ld_C_E s = .next { s with c := s.e, pc := s.pc + 1 } ∧
    exec .ld_C_H s = .next { s with c := s.h, pc := s.pc + 1 } ∧
    exec .ld_C_L s = .next { s with c := s.l, pc := s.pc + 1 } ∧
    exec .ld_C_indHL s = .next { s with c := s.readByte (pack s.h s.l), pc := s.pc + 1 } ∧
    exec .ld_C_A s = .next { s with c := s.a, pc := s.pc + 1 } ∧
    exec (.ld_C_d8 imm8) s = .next { s with c := imm8, pc := s.pc + 2 }

/-- O33. 42_ld8.md R210 on the rows that load `D`: no flag, no other register and no memory byte changes. -/
def Obligations.LdRegisterD : Prop :=
  ∀ (s : State) (imm8 : Byte),
    exec .ld_D_B s = .next { s with d := s.b, pc := s.pc + 1 } ∧
    exec .ld_D_C s = .next { s with d := s.c, pc := s.pc + 1 } ∧
    exec .ld_D_D s = .next { s with pc := s.pc + 1 } ∧
    exec .ld_D_E s = .next { s with d := s.e, pc := s.pc + 1 } ∧
    exec .ld_D_H s = .next { s with d := s.h, pc := s.pc + 1 } ∧
    exec .ld_D_L s = .next { s with d := s.l, pc := s.pc + 1 } ∧
    exec .ld_D_indHL s = .next { s with d := s.readByte (pack s.h s.l), pc := s.pc + 1 } ∧
    exec .ld_D_A s = .next { s with d := s.a, pc := s.pc + 1 } ∧
    exec (.ld_D_d8 imm8) s = .next { s with d := imm8, pc := s.pc + 2 }

/-- O34. 42_ld8.md R210 on the rows that load `E`: no flag, no other register and no memory byte changes. -/
def Obligations.LdRegisterE : Prop :=
  ∀ (s : State) (imm8 : Byte),
    exec .ld_E_B s = .next { s with e := s.b, pc := s.pc + 1 } ∧
    exec .ld_E_C s = .next { s with e := s.c, pc := s.pc + 1 } ∧
    exec .ld_E_D s = .next { s with e := s.d, pc := s.pc + 1 } ∧
    exec .ld_E_E s = .next { s with pc := s.pc + 1 } ∧
    exec .ld_E_H s = .next { s with e := s.h, pc := s.pc + 1 } ∧
    exec .ld_E_L s = .next { s with e := s.l, pc := s.pc + 1 } ∧
    exec .ld_E_indHL s = .next { s with e := s.readByte (pack s.h s.l), pc := s.pc + 1 } ∧
    exec .ld_E_A s = .next { s with e := s.a, pc := s.pc + 1 } ∧
    exec (.ld_E_d8 imm8) s = .next { s with e := imm8, pc := s.pc + 2 }

/-- O35. 42_ld8.md R210 on the rows that load `H`: no flag, no other register and no memory byte changes. -/
def Obligations.LdRegisterH : Prop :=
  ∀ (s : State) (imm8 : Byte),
    exec .ld_H_B s = .next { s with h := s.b, pc := s.pc + 1 } ∧
    exec .ld_H_C s = .next { s with h := s.c, pc := s.pc + 1 } ∧
    exec .ld_H_D s = .next { s with h := s.d, pc := s.pc + 1 } ∧
    exec .ld_H_E s = .next { s with h := s.e, pc := s.pc + 1 } ∧
    exec .ld_H_H s = .next { s with pc := s.pc + 1 } ∧
    exec .ld_H_L s = .next { s with h := s.l, pc := s.pc + 1 } ∧
    exec .ld_H_indHL s = .next { s with h := s.readByte (pack s.h s.l), pc := s.pc + 1 } ∧
    exec .ld_H_A s = .next { s with h := s.a, pc := s.pc + 1 } ∧
    exec (.ld_H_d8 imm8) s = .next { s with h := imm8, pc := s.pc + 2 }

/-- O36. 42_ld8.md R210 on the rows that load `L`: no flag, no other register and no memory byte changes. -/
def Obligations.LdRegisterL : Prop :=
  ∀ (s : State) (imm8 : Byte),
    exec .ld_L_B s = .next { s with l := s.b, pc := s.pc + 1 } ∧
    exec .ld_L_C s = .next { s with l := s.c, pc := s.pc + 1 } ∧
    exec .ld_L_D s = .next { s with l := s.d, pc := s.pc + 1 } ∧
    exec .ld_L_E s = .next { s with l := s.e, pc := s.pc + 1 } ∧
    exec .ld_L_H s = .next { s with l := s.h, pc := s.pc + 1 } ∧
    exec .ld_L_L s = .next { s with pc := s.pc + 1 } ∧
    exec .ld_L_indHL s = .next { s with l := s.readByte (pack s.h s.l), pc := s.pc + 1 } ∧
    exec .ld_L_A s = .next { s with l := s.a, pc := s.pc + 1 } ∧
    exec (.ld_L_d8 imm8) s = .next { s with l := imm8, pc := s.pc + 2 }

/-- O37. 42_ld8.md R210 on the rows that store through `HL`. -/
def Obligations.LdStoreHL : Prop :=
  ∀ (s : State) (imm8 : Byte),
    exec .ld_indHL_B s = .next { s with mem := s.mem.writeByte (pack s.h s.l) s.b, pc := s.pc + 1 } ∧
    exec .ld_indHL_C s = .next { s with mem := s.mem.writeByte (pack s.h s.l) s.c, pc := s.pc + 1 } ∧
    exec .ld_indHL_D s = .next { s with mem := s.mem.writeByte (pack s.h s.l) s.d, pc := s.pc + 1 } ∧
    exec .ld_indHL_E s = .next { s with mem := s.mem.writeByte (pack s.h s.l) s.e, pc := s.pc + 1 } ∧
    exec .ld_indHL_H s = .next { s with mem := s.mem.writeByte (pack s.h s.l) s.h, pc := s.pc + 1 } ∧
    exec .ld_indHL_L s = .next { s with mem := s.mem.writeByte (pack s.h s.l) s.l, pc := s.pc + 1 } ∧
    exec .ld_indHL_A s = .next { s with mem := s.mem.writeByte (pack s.h s.l) s.a, pc := s.pc + 1 } ∧
    exec (.ld_indHL_d8 imm8) s = .next { s with mem := s.mem.writeByte (pack s.h s.l) imm8, pc := s.pc + 2 }

/-- O38. The stores of `A` (42_ld8_memory_forms.md). The wrap of `HL` is the spec's own decision D9 (notes/assumptions/7.md);
`HIGH_BASE` is a parameter (decision D7, notes/assumptions/4.md). -/
def Obligations.LdStoreA : Prop :=
  ∀ (s : State) (imm8 : Byte) (imm16 : Word),
    exec .ld_indBC_A s = .next { s with mem := s.mem.writeByte (pack s.b s.c) s.a, pc := s.pc + 1 } ∧
    exec .ld_indDE_A s = .next { s with mem := s.mem.writeByte (pack s.d s.e) s.a, pc := s.pc + 1 } ∧
    exec .ld_indHLinc_A s = .next { s with
      mem := s.mem.writeByte (pack s.h s.l) s.a,
      h := (unpack (pack s.h s.l + 1)).1, l := (unpack (pack s.h s.l + 1)).2, pc := s.pc + 1 } ∧
    exec .ld_indHLdec_A s = .next { s with
      mem := s.mem.writeByte (pack s.h s.l) s.a,
      h := (unpack (pack s.h s.l - 1)).1, l := (unpack (pack s.h s.l - 1)).2, pc := s.pc + 1 } ∧
    exec .ld_indC_A s = .next { s with mem := s.mem.writeByte (pack 0 s.c) s.a, pc := s.pc + 1 } ∧
    exec (.ldh_indA8_A imm8) s = .next { s with mem := s.mem.writeByte (s.cfg.highBase + pack 0 imm8) s.a, pc := s.pc + 2 } ∧
    exec (.ld_indA16_A imm16) s = .next { s with mem := s.mem.writeByte imm16 s.a, pc := s.pc + 3 }

/-- O39. The loads of `A` (42_ld8_memory_forms.md). The wrap of `HL` is the spec's own decision D9 (notes/assumptions/7.md);
`HIGH_BASE` is a parameter (decision D7, notes/assumptions/4.md). -/
def Obligations.LdLoadA : Prop :=
  ∀ (s : State) (imm8 : Byte) (imm16 : Word),
    exec .ld_A_indBC s = .next { s with a := s.readByte (pack s.b s.c), pc := s.pc + 1 } ∧
    exec .ld_A_indDE s = .next { s with a := s.readByte (pack s.d s.e), pc := s.pc + 1 } ∧
    exec .ld_A_indHLinc s = .next { s with
      a := s.readByte (pack s.h s.l),
      h := (unpack (pack s.h s.l + 1)).1, l := (unpack (pack s.h s.l + 1)).2, pc := s.pc + 1 } ∧
    exec .ld_A_indHLdec s = .next { s with
      a := s.readByte (pack s.h s.l),
      h := (unpack (pack s.h s.l - 1)).1, l := (unpack (pack s.h s.l - 1)).2, pc := s.pc + 1 } ∧
    exec .ld_A_indC s = .next { s with a := s.readByte (pack 0 s.c), pc := s.pc + 1 } ∧
    exec (.ldh_A_indA8 imm8) s = .next { s with a := s.readByte (s.cfg.highBase + pack 0 imm8), pc := s.pc + 2 } ∧
    exec (.ld_A_indA16 imm16) s = .next { s with a := s.readByte imm16, pc := s.pc + 3 }

/-- O40. 43_ld16.md R300, its three rows. -/
def Obligations.Ld16Result : Prop :=
  ∀ (s : State) (imm16 : Word),
    exec (.ld_BC_d16 imm16) s = .next { s with
      b := imm16.extractLsb' 8 8, c := imm16.extractLsb' 0 8,
      pc := s.pc + 3 } ∧
    exec (.ld_DE_d16 imm16) s = .next { s with
      d := imm16.extractLsb' 8 8, e := imm16.extractLsb' 0 8,
      pc := s.pc + 3 } ∧
    exec (.ld_HL_d16 imm16) s = .next { s with
      h := imm16.extractLsb' 8 8, l := imm16.extractLsb' 0 8,
      pc := s.pc + 3 }

/-- O41. 44_jp.md R310 and its six rows. The bit positions of ZERO and CARRY are the spec's own decision D4
(notes/assumptions/3.md). -/
def Obligations.JpResult : Prop :=
  ∀ (s : State) (imm16 : Word),
    exec (.jp_NZ_a16 imm16) s = .next { s with pc := if s.f &&& 0x80 = 0 then imm16 else s.pc + 3 } ∧
    exec (.jp_a16 imm16) s = .next { s with pc := imm16 } ∧
    exec (.jp_Z_a16 imm16) s = .next { s with pc := if s.f &&& 0x80 ≠ 0 then imm16 else s.pc + 3 } ∧
    exec (.jp_NC_a16 imm16) s = .next { s with pc := if s.f &&& 0x10 = 0 then imm16 else s.pc + 3 } ∧
    exec (.jp_C_a16 imm16) s = .next { s with pc := if s.f &&& 0x10 ≠ 0 then imm16 else s.pc + 3 } ∧
    exec .jp_HL s = .next { s with pc := pack s.h s.l }

/-- O42. 45_cpl_ccf.md R320 for both values of `CPL_SETS_NH` (decision D5, notes/assumptions/4.md; the flag bits are D4). -/
def Obligations.CplResult : Prop :=
  ∀ s : State,
    exec .cpl s = .next { s with
      a := s.a ^^^ 0xFF, pc := s.pc + 1,
      f := if s.cfg.cplSetsNH = true then (s.f &&& 0x90) ||| 0x60 else s.f }

/-- O43. 45_cpl_ccf.md R321 for both values of `CCF_NH_VALUE` (decision D6, notes/assumptions/4.md; ZERO kept is D15,
notes/assumptions/13.md; the flag bits are D4). -/
def Obligations.CcfResult : Prop :=
  ∀ s : State,
    exec .ccf s = .next { s with
      pc := s.pc + 1,
      f := (s.f &&& 0x80) ||| (if s.cfg.ccfNhValue = true then 0x60 else 0x00) ||| ((s.f &&& 0x10) ^^^ 0x10) }

/-- O44. 46_incdec.md R330 and its eight rows. CARRY kept is the spec's own decision D16 (notes/assumptions/13.md); the flag bits
are D4 (notes/assumptions/3.md). -/
def Obligations.IncResult : Prop :=
  ∀ s : State,
    exec .inc_A s = .next { s with
      a := s.a + 1, pc := s.pc + 1,
      f := (if s.a + 1 = 0x00 then 0x80 else 0x00) ||| (if s.a = 0xFF then 0x20 else 0x00) ||| (s.f &&& 0x10) } ∧
    exec .inc_B s = .next { s with
      b := s.b + 1, pc := s.pc + 1,
      f := (if s.b + 1 = 0x00 then 0x80 else 0x00) ||| (if s.b = 0xFF then 0x20 else 0x00) ||| (s.f &&& 0x10) } ∧
    exec .inc_C s = .next { s with
      c := s.c + 1, pc := s.pc + 1,
      f := (if s.c + 1 = 0x00 then 0x80 else 0x00) ||| (if s.c = 0xFF then 0x20 else 0x00) ||| (s.f &&& 0x10) } ∧
    exec .inc_D s = .next { s with
      d := s.d + 1, pc := s.pc + 1,
      f := (if s.d + 1 = 0x00 then 0x80 else 0x00) ||| (if s.d = 0xFF then 0x20 else 0x00) ||| (s.f &&& 0x10) } ∧
    exec .inc_E s = .next { s with
      e := s.e + 1, pc := s.pc + 1,
      f := (if s.e + 1 = 0x00 then 0x80 else 0x00) ||| (if s.e = 0xFF then 0x20 else 0x00) ||| (s.f &&& 0x10) } ∧
    exec .inc_H s = .next { s with
      h := s.h + 1, pc := s.pc + 1,
      f := (if s.h + 1 = 0x00 then 0x80 else 0x00) ||| (if s.h = 0xFF then 0x20 else 0x00) ||| (s.f &&& 0x10) } ∧
    exec .inc_L s = .next { s with
      l := s.l + 1, pc := s.pc + 1,
      f := (if s.l + 1 = 0x00 then 0x80 else 0x00) ||| (if s.l = 0xFF then 0x20 else 0x00) ||| (s.f &&& 0x10) } ∧
    exec .inc_indHL s = .next { s with
      mem := s.mem.writeByte (pack s.h s.l) (s.readByte (pack s.h s.l) + 1), pc := s.pc + 1,
      f := (if (s.readByte (pack s.h s.l)) + 1 = 0x00 then 0x80 else 0x00) ||| (if (s.readByte (pack s.h s.l)) = 0xFF then 0x20 else 0x00) ||| (s.f &&& 0x10) }

/-- O45. 46_incdec.md R331 and its eight rows. CARRY kept is the spec's own decision D16 (notes/assumptions/13.md); the flag bits
are D4 (notes/assumptions/3.md). -/
def Obligations.DecResult : Prop :=
  ∀ s : State,
    exec .dec_A s = .next { s with
      a := s.a - 1, pc := s.pc + 1,
      f := (if s.a - 1 = 0x00 then 0x80 else 0x00) ||| 0x40 ||| (if s.a = 0x00 then 0x20 else 0x00) ||| (s.f &&& 0x10) } ∧
    exec .dec_B s = .next { s with
      b := s.b - 1, pc := s.pc + 1,
      f := (if s.b - 1 = 0x00 then 0x80 else 0x00) ||| 0x40 ||| (if s.b = 0x00 then 0x20 else 0x00) ||| (s.f &&& 0x10) } ∧
    exec .dec_C s = .next { s with
      c := s.c - 1, pc := s.pc + 1,
      f := (if s.c - 1 = 0x00 then 0x80 else 0x00) ||| 0x40 ||| (if s.c = 0x00 then 0x20 else 0x00) ||| (s.f &&& 0x10) } ∧
    exec .dec_D s = .next { s with
      d := s.d - 1, pc := s.pc + 1,
      f := (if s.d - 1 = 0x00 then 0x80 else 0x00) ||| 0x40 ||| (if s.d = 0x00 then 0x20 else 0x00) ||| (s.f &&& 0x10) } ∧
    exec .dec_E s = .next { s with
      e := s.e - 1, pc := s.pc + 1,
      f := (if s.e - 1 = 0x00 then 0x80 else 0x00) ||| 0x40 ||| (if s.e = 0x00 then 0x20 else 0x00) ||| (s.f &&& 0x10) } ∧
    exec .dec_H s = .next { s with
      h := s.h - 1, pc := s.pc + 1,
      f := (if s.h - 1 = 0x00 then 0x80 else 0x00) ||| 0x40 ||| (if s.h = 0x00 then 0x20 else 0x00) ||| (s.f &&& 0x10) } ∧
    exec .dec_L s = .next { s with
      l := s.l - 1, pc := s.pc + 1,
      f := (if s.l - 1 = 0x00 then 0x80 else 0x00) ||| 0x40 ||| (if s.l = 0x00 then 0x20 else 0x00) ||| (s.f &&& 0x10) } ∧
    exec .dec_indHL s = .next { s with
      mem := s.mem.writeByte (pack s.h s.l) (s.readByte (pack s.h s.l) - 1), pc := s.pc + 1,
      f := (if (s.readByte (pack s.h s.l)) - 1 = 0x00 then 0x80 else 0x00) ||| 0x40 ||| (if (s.readByte (pack s.h s.l)) = 0x00 then 0x20 else 0x00) ||| (s.f &&& 0x10) }

/-- O46. 46_incdec.md R332 and R333, their six rows. -/
def Obligations.IncDec16Result : Prop :=
  ∀ s : State,
    exec .inc_BC s = .next { s with
      b := (unpack (pack s.b s.c + 1)).1,
      c := (unpack (pack s.b s.c + 1)).2, pc := s.pc + 1 } ∧
    exec .inc_DE s = .next { s with
      d := (unpack (pack s.d s.e + 1)).1,
      e := (unpack (pack s.d s.e + 1)).2, pc := s.pc + 1 } ∧
    exec .inc_HL s = .next { s with
      h := (unpack (pack s.h s.l + 1)).1,
      l := (unpack (pack s.h s.l + 1)).2, pc := s.pc + 1 } ∧
    exec .dec_BC s = .next { s with
      b := (unpack (pack s.b s.c - 1)).1,
      c := (unpack (pack s.b s.c - 1)).2, pc := s.pc + 1 } ∧
    exec .dec_DE s = .next { s with
      d := (unpack (pack s.d s.e - 1)).1,
      e := (unpack (pack s.d s.e - 1)).2, pc := s.pc + 1 } ∧
    exec .dec_HL s = .next { s with
      h := (unpack (pack s.h s.l - 1)).1,
      l := (unpack (pack s.h s.l - 1)).2, pc := s.pc + 1 }

/-- O47. 47_xor.md R360 and its nine rows, with the numbers R360 gives for `F`. -/
def Obligations.XorResult : Prop :=
  ∀ (s : State) (imm8 : Byte),
    exec .xor_A_B s = .next { s with a := s.a ^^^ s.b, pc := s.pc + 1, f := if s.a ^^^ s.b = 0x00 then 0x80 else 0x00 } ∧
    exec .xor_A_C s = .next { s with a := s.a ^^^ s.c, pc := s.pc + 1, f := if s.a ^^^ s.c = 0x00 then 0x80 else 0x00 } ∧
    exec .xor_A_D s = .next { s with a := s.a ^^^ s.d, pc := s.pc + 1, f := if s.a ^^^ s.d = 0x00 then 0x80 else 0x00 } ∧
    exec .xor_A_E s = .next { s with a := s.a ^^^ s.e, pc := s.pc + 1, f := if s.a ^^^ s.e = 0x00 then 0x80 else 0x00 } ∧
    exec .xor_A_H s = .next { s with a := s.a ^^^ s.h, pc := s.pc + 1, f := if s.a ^^^ s.h = 0x00 then 0x80 else 0x00 } ∧
    exec .xor_A_L s = .next { s with a := s.a ^^^ s.l, pc := s.pc + 1, f := if s.a ^^^ s.l = 0x00 then 0x80 else 0x00 } ∧
    exec .xor_A_indHL s = .next { s with
      a := s.a ^^^ s.readByte (pack s.h s.l), pc := s.pc + 1,
      f := if s.a ^^^ s.readByte (pack s.h s.l) = 0x00 then 0x80 else 0x00 } ∧
    exec .xor_A_A s = .next { s with a := 0x00, pc := s.pc + 1, f := 0x80 } ∧
    exec (.xor_A_d8 imm8) s = .next { s with a := s.a ^^^ imm8, pc := s.pc + 2, f := if s.a ^^^ imm8 = 0x00 then 0x80 else 0x00 }

/-- O48. The record of 60_exceptions.md R604 is the spec's own decision D10 and D17 (notes/assumptions/8.md, 14.md); the pairing
of bytes and rows is D1 to D3 (notes/assumptions/1.md, 2.md). -/
def Obligations.AddTraps : Prop :=
  ∀ (s : State) (imm8 : Byte),
    TrapsUnimplemented .add_HL_BC 0x09 .add16 s ∧
    TrapsUnimplemented .add_HL_DE 0x19 .add16 s ∧
    TrapsUnimplemented .add_HL_HL 0x29 .add16 s ∧
    TrapsUnimplemented .add_A_B 0x80 .add s ∧
    TrapsUnimplemented .add_A_C 0x81 .add s ∧
    TrapsUnimplemented .add_A_D 0x82 .add s ∧
    TrapsUnimplemented .add_A_E 0x83 .add s ∧
    TrapsUnimplemented .add_A_H 0x84 .add s ∧
    TrapsUnimplemented .add_A_L 0x85 .add s ∧
    TrapsUnimplemented .add_A_indHL 0x86 .add s ∧
    TrapsUnimplemented .add_A_A 0x87 .add s ∧
    TrapsUnimplemented (.add_A_d8 imm8) 0xC6 .add s

/-- O49. The record of 60_exceptions.md R604 is the spec's own decision D10 and D17 (notes/assumptions/8.md, 14.md); the pairing
of bytes and rows is D1 to D3 (notes/assumptions/1.md, 2.md). -/
def Obligations.AdcSubTraps : Prop :=
  ∀ (s : State) (imm8 : Byte),
    TrapsUnimplemented .adc_A_B 0x88 .adc s ∧
    TrapsUnimplemented .adc_A_C 0x89 .adc s ∧
    TrapsUnimplemented .adc_A_D 0x8A .adc s ∧
    TrapsUnimplemented .adc_A_E 0x8B .adc s ∧
    TrapsUnimplemented .adc_A_H 0x8C .adc s ∧
    TrapsUnimplemented .adc_A_L 0x8D .adc s ∧
    TrapsUnimplemented .adc_A_indHL 0x8E .adc s ∧
    TrapsUnimplemented .adc_A_A 0x8F .adc s ∧
    TrapsUnimplemented .sub_A_B 0x90 .sub s ∧
    TrapsUnimplemented .sub_A_C 0x91 .sub s ∧
    TrapsUnimplemented .sub_A_D 0x92 .sub s ∧
    TrapsUnimplemented .sub_A_E 0x93 .sub s ∧
    TrapsUnimplemented .sub_A_H 0x94 .sub s ∧
    TrapsUnimplemented .sub_A_L 0x95 .sub s ∧
    TrapsUnimplemented .sub_A_indHL 0x96 .sub s ∧
    TrapsUnimplemented .sub_A_A 0x97 .sub s ∧
    TrapsUnimplemented (.adc_A_d8 imm8) 0xCE .adc s ∧
    TrapsUnimplemented (.sub_A_d8 imm8) 0xD6 .sub s

/-- O50. The record of 60_exceptions.md R604 is the spec's own decision D10 and D17 (notes/assumptions/8.md, 14.md); the pairing
of bytes and rows is D1 to D3 (notes/assumptions/1.md, 2.md). -/
def Obligations.SbcAndTraps : Prop :=
  ∀ (s : State) (imm8 : Byte),
    TrapsUnimplemented .sbc_A_B 0x98 .sbc s ∧
    TrapsUnimplemented .sbc_A_C 0x99 .sbc s ∧
    TrapsUnimplemented .sbc_A_D 0x9A .sbc s ∧
    TrapsUnimplemented .sbc_A_E 0x9B .sbc s ∧
    TrapsUnimplemented .sbc_A_H 0x9C .sbc s ∧
    TrapsUnimplemented .sbc_A_L 0x9D .sbc s ∧
    TrapsUnimplemented .sbc_A_indHL 0x9E .sbc s ∧
    TrapsUnimplemented .sbc_A_A 0x9F .sbc s ∧
    TrapsUnimplemented .and_A_B 0xA0 .and s ∧
    TrapsUnimplemented .and_A_C 0xA1 .and s ∧
    TrapsUnimplemented .and_A_D 0xA2 .and s ∧
    TrapsUnimplemented .and_A_E 0xA3 .and s ∧
    TrapsUnimplemented .and_A_H 0xA4 .and s ∧
    TrapsUnimplemented .and_A_L 0xA5 .and s ∧
    TrapsUnimplemented .and_A_indHL 0xA6 .and s ∧
    TrapsUnimplemented .and_A_A 0xA7 .and s ∧
    TrapsUnimplemented (.sbc_A_d8 imm8) 0xDE .sbc s ∧
    TrapsUnimplemented (.and_A_d8 imm8) 0xE6 .and s

/-- O51. The record of 60_exceptions.md R604 is the spec's own decision D10 and D17 (notes/assumptions/8.md, 14.md); the pairing
of bytes and rows is D1 to D3 (notes/assumptions/1.md, 2.md). -/
def Obligations.OrCpTraps : Prop :=
  ∀ (s : State) (imm8 : Byte),
    TrapsUnimplemented .or_A_B 0xB0 .or s ∧
    TrapsUnimplemented .or_A_C 0xB1 .or s ∧
    TrapsUnimplemented .or_A_D 0xB2 .or s ∧
    TrapsUnimplemented .or_A_E 0xB3 .or s ∧
    TrapsUnimplemented .or_A_H 0xB4 .or s ∧
    TrapsUnimplemented .or_A_L 0xB5 .or s ∧
    TrapsUnimplemented .or_A_indHL 0xB6 .or s ∧
    TrapsUnimplemented .or_A_A 0xB7 .or s ∧
    TrapsUnimplemented .cp_A_B 0xB8 .cp s ∧
    TrapsUnimplemented .cp_A_C 0xB9 .cp s ∧
    TrapsUnimplemented .cp_A_D 0xBA .cp s ∧
    TrapsUnimplemented .cp_A_E 0xBB .cp s ∧
    TrapsUnimplemented .cp_A_H 0xBC .cp s ∧
    TrapsUnimplemented .cp_A_L 0xBD .cp s ∧
    TrapsUnimplemented .cp_A_indHL 0xBE .cp s ∧
    TrapsUnimplemented .cp_A_A 0xBF .cp s ∧
    TrapsUnimplemented (.or_A_d8 imm8) 0xF6 .or s ∧
    TrapsUnimplemented (.cp_A_d8 imm8) 0xFE .cp s

/-- O52. The record of 60_exceptions.md R604 is the spec's own decision D10 and D17 (notes/assumptions/8.md, 14.md); the pairing
of bytes and rows is D1 to D3 (notes/assumptions/1.md, 2.md). -/
def Obligations.MiscTraps : Prop :=
  ∀ (s : State) (imm8 : Byte),
    TrapsUnimplemented .rlca 0x07 .unimplemented s ∧
    TrapsUnimplemented .rrca 0x0F .unimplemented s ∧
    TrapsUnimplemented (.stop imm8) 0x10 .unimplemented s ∧
    TrapsUnimplemented .rla 0x17 .unimplemented s ∧
    TrapsUnimplemented .rra 0x1F .unimplemented s ∧
    TrapsUnimplemented .daa 0x27 .unimplemented s ∧
    TrapsUnimplemented .scf 0x37 .unimplemented s ∧
    TrapsUnimplemented .halt 0x76 .unimplemented s ∧
    TrapsUnimplemented (.prefix_CB imm8) 0xCB .unimplemented s ∧
    TrapsUnimplemented .di 0xF3 .unimplemented s ∧
    TrapsUnimplemented .ei 0xFB .unimplemented s

/-- O53. The record of 60_exceptions.md R604 is the spec's own decision D10 and D17 (notes/assumptions/8.md, 14.md); the pairing
of bytes and rows is D1 to D3 (notes/assumptions/1.md, 2.md). -/
def Obligations.JrCallTraps : Prop :=
  ∀ (s : State) (imm8 : Byte) (imm16 : Word),
    TrapsUnimplemented (.jr_r8 imm8) 0x18 .unimplemented s ∧
    TrapsUnimplemented (.jr_NZ_r8 imm8) 0x20 .unimplemented s ∧
    TrapsUnimplemented (.jr_Z_r8 imm8) 0x28 .unimplemented s ∧
    TrapsUnimplemented (.jr_NC_r8 imm8) 0x30 .unimplemented s ∧
    TrapsUnimplemented (.jr_C_r8 imm8) 0x38 .unimplemented s ∧
    TrapsUnimplemented (.call_NZ_a16 imm16) 0xC4 .unimplemented s ∧
    TrapsUnimplemented (.call_Z_a16 imm16) 0xCC .unimplemented s ∧
    TrapsUnimplemented (.call_a16 imm16) 0xCD .unimplemented s ∧
    TrapsUnimplemented (.call_NC_a16 imm16) 0xD4 .unimplemented s ∧
    TrapsUnimplemented (.call_C_a16 imm16) 0xDC .unimplemented s

/-- O54. The record of 60_exceptions.md R604 is the spec's own decision D10 and D17 (notes/assumptions/8.md, 14.md); the pairing
of bytes and rows is D1 to D3 (notes/assumptions/1.md, 2.md). -/
def Obligations.RetRstTraps : Prop :=
  ∀ (s : State),
    TrapsUnimplemented .ret_NZ 0xC0 .unimplemented s ∧
    TrapsUnimplemented .rst_00H 0xC7 .unimplemented s ∧
    TrapsUnimplemented .ret_Z 0xC8 .unimplemented s ∧
    TrapsUnimplemented .ret 0xC9 .unimplemented s ∧
    TrapsUnimplemented .rst_08H 0xCF .unimplemented s ∧
    TrapsUnimplemented .ret_NC 0xD0 .unimplemented s ∧
    TrapsUnimplemented .rst_10H 0xD7 .unimplemented s ∧
    TrapsUnimplemented .ret_C 0xD8 .unimplemented s ∧
    TrapsUnimplemented .reti 0xD9 .unimplemented s ∧
    TrapsUnimplemented .rst_18H 0xDF .unimplemented s ∧
    TrapsUnimplemented .rst_20H 0xE7 .unimplemented s ∧
    TrapsUnimplemented .rst_28H 0xEF .unimplemented s ∧
    TrapsUnimplemented .rst_30H 0xF7 .unimplemented s ∧
    TrapsUnimplemented .rst_38H 0xFF .unimplemented s

/-- O55. The record of 60_exceptions.md R604 is the spec's own decision D10 and D17 (notes/assumptions/8.md, 14.md); the pairing
of bytes and rows is D1 to D3 (notes/assumptions/1.md, 2.md). -/
def Obligations.PushPopTraps : Prop :=
  ∀ (s : State),
    TrapsUnimplemented .pop_BC 0xC1 .unimplemented s ∧
    TrapsUnimplemented .push_BC 0xC5 .unimplemented s ∧
    TrapsUnimplemented .pop_DE 0xD1 .unimplemented s ∧
    TrapsUnimplemented .push_DE 0xD5 .unimplemented s ∧
    TrapsUnimplemented .pop_HL 0xE1 .unimplemented s ∧
    TrapsUnimplemented .push_HL 0xE5 .unimplemented s ∧
    TrapsUnimplemented .pop_AF 0xF1 .unimplemented s ∧
    TrapsUnimplemented .push_AF 0xF5 .unimplemented s

/-- O56. The record of 60_exceptions.md R604 is the spec's own decision D10 and D17 (notes/assumptions/8.md, 14.md); the pairing
of bytes and rows is D1 to D3 (notes/assumptions/1.md, 2.md). -/
def Obligations.SpOperandTraps : Prop :=
  ∀ (s : State) (imm8 : Byte) (imm16 : Word),
    TrapsUnimplemented (.ld_indA16_SP imm16) 0x08 .unimplemented s ∧
    TrapsUnimplemented (.ld_SP_d16 imm16) 0x31 .unimplemented s ∧
    TrapsUnimplemented .inc_SP 0x33 .unimplemented s ∧
    TrapsUnimplemented .add_HL_SP 0x39 .unimplemented s ∧
    TrapsUnimplemented .dec_SP 0x3B .unimplemented s ∧
    TrapsUnimplemented (.add_SP_r8 imm8) 0xE8 .unimplemented s ∧
    TrapsUnimplemented (.ld_HL_SPr8 imm8) 0xF8 .unimplemented s ∧
    TrapsUnimplemented .ld_SP_HL 0xF9 .unimplemented s

/-- O57. R601: "Values recorded: the opcode byte and the `pc` of that byte". That the list is complete is the spec's own decision
D1 (notes/assumptions/1.md), the length 1 is D8 (notes/assumptions/6.md). -/
def Obligations.IllegalTraps : Prop :=
  ∀ s : State,
    encode .illegal_D3 = [0xD3] ∧ exec .illegal_D3 s = .fault (.illegalOpcode 0xD3 s.pc) ∧
    encode .illegal_DB = [0xDB] ∧ exec .illegal_DB s = .fault (.illegalOpcode 0xDB s.pc) ∧
    encode .illegal_DD = [0xDD] ∧ exec .illegal_DD s = .fault (.illegalOpcode 0xDD s.pc) ∧
    encode .illegal_E3 = [0xE3] ∧ exec .illegal_E3 s = .fault (.illegalOpcode 0xE3 s.pc) ∧
    encode .illegal_E4 = [0xE4] ∧ exec .illegal_E4 s = .fault (.illegalOpcode 0xE4 s.pc) ∧
    encode .illegal_EB = [0xEB] ∧ exec .illegal_EB s = .fault (.illegalOpcode 0xEB s.pc) ∧
    encode .illegal_EC = [0xEC] ∧ exec .illegal_EC s = .fault (.illegalOpcode 0xEC s.pc) ∧
    encode .illegal_ED = [0xED] ∧ exec .illegal_ED s = .fault (.illegalOpcode 0xED s.pc) ∧
    encode .illegal_F4 = [0xF4] ∧ exec .illegal_F4 s = .fault (.illegalOpcode 0xF4 s.pc) ∧
    encode .illegal_FC = [0xFC] ∧ exec .illegal_FC s = .fault (.illegalOpcode 0xFC s.pc) ∧
    encode .illegal_FD = [0xFD] ∧ exec .illegal_FD s = .fault (.illegalOpcode 0xFD s.pc)

/-- O58. The law of 46_incdec.md R331. CARRY kept is the spec's own decision D16 (notes/assumptions/13.md). In the unmapped range
the law fails by R66: the write is dropped, so `HL` is taken outside it; canonical
memory is the model's choice (notes/assumptions/16.md). -/
def Obligations.IncThenDec : Prop :=
  ∀ s : State,
    (∀ p ∈ [(Reg8.A, Instr.inc_A, Instr.dec_A), (.B, .inc_B, .dec_B), (.C, .inc_C, .dec_C), (.D, .inc_D, .dec_D),
        (.E, .inc_E, .dec_E), (.H, .inc_H, .dec_H), (.L, .inc_L, .dec_L)],
      ∃ t u, exec p.2.1 s = .next t ∧ exec p.2.2 t = .next u ∧ u.reg8 p.1 = s.reg8 p.1 ∧
        u.flag .Z = (s.reg8 p.1 == 0x00) ∧ u.flag .N = true ∧ u.flag .H = (s.reg8 p.1 == 0xFF) ∧
        u.flag .C = s.flag .C) ∧
    (s.mem.wf = true → ¬ (0xFEA0 ≤ (s.pair .HL).toNat ∧ (s.pair .HL).toNat ≤ 0xFEFF) →
      ∃ t u, exec .inc_indHL s = .next t ∧ exec .dec_indHL t = .next u ∧ u.mem = s.mem ∧
        u.flag .Z = (s.readByte (s.pair .HL) == 0x00) ∧ u.flag .N = true ∧
        u.flag .H = (s.readByte (s.pair .HL) == 0xFF) ∧ u.flag .C = s.flag .C)

/-- O59. 40_step.md R150 and 44_jp.md R310, for every number of steps. -/
def Obligations.JumpToSelf : Prop :=
  ∀ s : State, s.readByte s.pc = 0xC3 → s.readByte (s.pc + 1) = s.pc.extractLsb' 0 8 →
    s.readByte (s.pc + 2) = s.pc.extractLsb' 8 8 → ∀ k : Nat, Sys2Proof.core.run k s = .next s

/-- O60. 20_memory.md R82: "A program may overwrite the instruction at the very next `pc` and the new bytes are executed."
Canonical memory is the model's choice (notes/assumptions/16.md). -/
def Obligations.StoreSeenByNextFetch : Prop :=
  ∀ s : State, s.mem.wf = true → s.readByte s.pc = 0x77 → keyOf (s.pair .HL) = keyOf (s.pc + 1) →
    keyOf (s.pc + 1) ≠ none →
    ∃ t i, step s = .next t ∧ t.pc = s.pc + 1 ∧ t.readByte t.pc = s.a ∧ i.opcode = s.a ∧ step t = exec i t
end

