-- ==== Sys2Proof/Laws/Memory.lean ====
section
/-!
SUPPORT. The laws of memory: what is read after a write, and that every memory operation keeps the canonical form.
-/
namespace Sys2Proof.Machine

/-! ### Memory by key -/

theorem Memory.wfFrom_mono {lo lo' : Nat} {m : Memory} (h : lo' ≤ lo) (hm : Memory.wfFrom lo m = true) :
    Memory.wfFrom lo' m = true := by
  cases m with
  | nil => rfl
  | cons p m =>
    obtain ⟨k, v⟩ := p
    simp only [Memory.wfFrom, Bool.and_eq_true, decide_eq_true_eq] at hm ⊢
    exact ⟨⟨⟨by omega, hm.1.1.2⟩, hm.1.2⟩, hm.2⟩

/-- A key below the first one of a canonical memory is not listed. -/
theorem Memory.readKey_below {lo k : Nat} {m : Memory} (hm : Memory.wfFrom lo m = true) (h : k < lo) :
    Memory.readKey m k = unlistedByte k := by
  induction m generalizing lo with
  | nil => rfl
  | cons p m ih =>
    obtain ⟨k', v⟩ := p
    simp only [Memory.wfFrom, Bool.and_eq_true, decide_eq_true_eq] at hm
    have hne : k ≠ k' := by omega
    simp only [Memory.readKey, hne, if_false]
    exact ih hm.2 (by omega)

theorem Memory.readKey_cons_self {lo k : Nat} {m : Memory} (v : Byte) (hm : Memory.wfFrom lo m = true) (h : k < lo) :
    Memory.readKey (Memory.cons k v m) k = v := by
  unfold Memory.cons
  split
  · rename_i hv
    rw [Memory.readKey_below hm h, hv]
  · simp [Memory.readKey]

theorem Memory.readKey_cons_ne {k k' : Nat} (m : Memory) (v : Byte) (h : k' ≠ k) :
    Memory.readKey (Memory.cons k v m) k' = Memory.readKey m k' := by
  unfold Memory.cons
  split
  · rfl
  · simp [Memory.readKey, h]

/-- A read of the key just written gives the byte written. -/
theorem Memory.readKey_writeKey_self {lo : Nat} {m : Memory} (k : Nat) (v : Byte) (hm : Memory.wfFrom lo m = true) :
    Memory.readKey (Memory.writeKey m k v) k = v := by
  induction m generalizing lo with
  | nil => exact Memory.readKey_cons_self (lo := k + 1) v rfl (Nat.lt_succ_self k)
  | cons p m ih =>
    obtain ⟨k', v'⟩ := p
    have hm' := hm
    simp only [Memory.wfFrom, Bool.and_eq_true, decide_eq_true_eq] at hm'
    simp only [Memory.writeKey]
    split
    · refine Memory.readKey_cons_self (lo := k') v ?_ ‹_›
      simp only [Memory.wfFrom, Bool.and_eq_true, decide_eq_true_eq]
      exact ⟨⟨⟨Nat.le_refl _, hm'.1.1.2⟩, hm'.1.2⟩, hm'.2⟩
    · split
      · rename_i hk
        subst hk
        exact Memory.readKey_cons_self v hm'.2 (Nat.lt_succ_self k)
      · rename_i hk
        simp only [Memory.readKey, hk, if_false]
        exact ih hm'.2

/-- A write leaves every other key alone. -/
theorem Memory.readKey_writeKey_ne (m : Memory) {k k' : Nat} (v : Byte) (h : k' ≠ k) :
    Memory.readKey (Memory.writeKey m k v) k' = Memory.readKey m k' := by
  induction m with
  | nil => exact Memory.readKey_cons_ne [] v h
  | cons p m ih =>
    obtain ⟨j, w⟩ := p
    simp only [Memory.writeKey]
    split
    · exact Memory.readKey_cons_ne _ v h
    · split
      · rename_i hk
        subst hk
        rw [Memory.readKey_cons_ne _ v h]
        simp [Memory.readKey, h]
      · simp only [Memory.readKey, ih]

theorem Memory.wfFrom_cons {k : Nat} {m : Memory} {v : Byte} (hk : validKey k = true)
    (hm : Memory.wfFrom (k + 1) m = true) : Memory.wfFrom k (Memory.cons k v m) = true := by
  unfold Memory.cons
  split
  · exact Memory.wfFrom_mono (Nat.le_succ k) hm
  · rename_i hv
    simp [Memory.wfFrom, hk, hv, hm]

/-- A write to a key of a store keeps the canonical form. -/
theorem Memory.wfFrom_writeKey {lo k : Nat} {m : Memory} (v : Byte) (hlo : lo ≤ k) (hk : validKey k = true)
    (hm : Memory.wfFrom lo m = true) : Memory.wfFrom lo (Memory.writeKey m k v) = true := by
  induction m generalizing lo with
  | nil => exact Memory.wfFrom_mono hlo (Memory.wfFrom_cons hk rfl)
  | cons p m ih =>
    obtain ⟨k', v'⟩ := p
    have hm' := hm
    simp only [Memory.wfFrom, Bool.and_eq_true, decide_eq_true_eq] at hm'
    simp only [Memory.writeKey]
    split
    · rename_i hlt
      refine Memory.wfFrom_mono hlo (Memory.wfFrom_cons hk ?_)
      simp only [Memory.wfFrom, Bool.and_eq_true, decide_eq_true_eq]
      exact ⟨⟨⟨hlt, hm'.1.1.2⟩, hm'.1.2⟩, hm'.2⟩
    · split
      · rename_i hkk
        subst hkk
        exact Memory.wfFrom_mono hlo (Memory.wfFrom_cons hk hm'.2)
      · simp only [Memory.wfFrom, Bool.and_eq_true, decide_eq_true_eq]
        exact ⟨hm'.1, ih (by omega) hm'.2⟩

/-- Two canonical memories that read alike at every key are equal. -/
theorem Memory.eq_of_readKey {lo : Nat} {m m' : Memory} (hm : Memory.wfFrom lo m = true)
    (hm' : Memory.wfFrom lo m' = true) (h : ∀ k, Memory.readKey m k = Memory.readKey m' k) : m = m' := by
  induction m generalizing lo m' with
  | nil =>
    cases m' with
    | nil => rfl
    | cons q m' =>
      obtain ⟨k, v⟩ := q
      simp only [Memory.wfFrom, Bool.and_eq_true, Bool.not_eq_true', decide_eq_true_eq, decide_eq_false_iff_not] at hm'
      have := h k
      simp only [Memory.readKey, if_true] at this
      exact absurd this.symm hm'.1.2
  | cons p m ih =>
    obtain ⟨k, v⟩ := p
    have w := hm
    simp only [Memory.wfFrom, Bool.and_eq_true, Bool.not_eq_true', decide_eq_true_eq, decide_eq_false_iff_not] at w
    cases m' with
    | nil =>
      have := h k
      simp only [Memory.readKey, if_true] at this
      exact absurd this w.1.2
    | cons q m' =>
      obtain ⟨k', v'⟩ := q
      have w' := hm'
      simp only [Memory.wfFrom, Bool.and_eq_true, Bool.not_eq_true', decide_eq_true_eq, decide_eq_false_iff_not] at w'
      have hkk : k = k' := by
        rcases Nat.lt_trichotomy k k' with hlt | heq | hgt
        · have e := h k
          have hne : k ≠ k' := by omega
          simp only [Memory.readKey, if_true, hne, if_false] at e
          rw [Memory.readKey_below w'.2 (by omega)] at e
          exact absurd e w.1.2
        · exact heq
        · have e := h k'
          have hne : k' ≠ k := by omega
          simp only [Memory.readKey, if_true, hne, if_false] at e
          rw [Memory.readKey_below w.2 (by omega)] at e
          exact absurd e.symm w'.1.2
      subst hkk
      have hv : v = v' := by
        have e := h k
        simpa only [Memory.readKey, if_true] using e
      subst hv
      refine congrArg _ (ih w.2 w'.2 fun j => ?_)
      by_cases hj : j = k
      · subst hj
        rw [Memory.readKey_below w.2 (Nat.lt_succ_self j), Memory.readKey_below w'.2 (Nat.lt_succ_self j)]
      · have e := h j
        simpa only [Memory.readKey, hj, if_false] using e

/-! ### Memory by address -/

/-- The key of an address, range by range (20_memory.md R61). -/
theorem keyOf_eq (a : Word) : keyOf a =
    if a.toNat < 0xE000 then some a.toNat
    else if a.toNat < 0xFE00 then some (a.toNat - 0x2000)
    else if a.toNat < 0xFEA0 then some a.toNat
    else if a.toNat < 0xFF00 then none
    else some a.toNat := by
  simp only [keyOf, route]
  repeat' split
  all_goals first
    | omega
    | (simp only [Option.map_some, Store.base, Option.some.injEq]; omega)
    | simp only [Option.map_none]

/-- The key of a mapped address is a byte of a store. -/
theorem validKey_of_keyOf {a : Word} {k : Nat} (h : keyOf a = some k) : validKey k = true := by
  rw [keyOf_eq] at h
  have ha := a.isLt
  unfold validKey
  simp only [Bool.or_eq_true, Bool.and_eq_true, decide_eq_true_eq]
  repeat' split at h
  all_goals first
    | (simp only [Option.some.injEq] at h; omega)
    | cases h

/-- Every key of a store is the key of an address. -/
theorem exists_keyOf {k : Nat} (h : validKey k = true) : ∃ a : Word, keyOf a = some k := by
  unfold validKey at h
  simp only [Bool.or_eq_true, Bool.and_eq_true, decide_eq_true_eq] at h
  have hk : k < 2 ^ 16 := by omega
  refine ⟨BitVec.ofNat 16 k, ?_⟩
  rw [keyOf_eq, BitVec.toNat_ofNat, Nat.mod_eq_of_lt hk]
  repeat' split
  all_goals first | omega | rfl

@[simp] theorem Memory.wf_nil : Memory.wf [] = true := rfl

/-- `write_byte` keeps the canonical form. -/
theorem Memory.wf_writeByte {m : Memory} (a : Word) (v : Byte) (hm : Memory.wf m = true) :
    Memory.wf (Memory.writeByte m a v) = true := by
  unfold Memory.writeByte
  split
  · exact Memory.wfFrom_writeKey v (Nat.zero_le _) (validKey_of_keyOf ‹_›) hm
  · exact hm

/-- `write_word` keeps the canonical form. -/
theorem Memory.wf_writeWord {m : Memory} (a v : Word) (hm : Memory.wf m = true) :
    Memory.wf (Memory.writeWord m a v) = true :=
  Memory.wf_writeByte _ _ (Memory.wf_writeByte _ _ hm)

/-- A read through an address that routes to the byte just written gives the byte written. -/
theorem Memory.readByte_writeByte_same {m : Memory} {a b : Word} {k : Nat} (v : Byte) (hm : Memory.wf m = true)
    (ha : keyOf a = some k) (hb : keyOf b = some k) :
    Memory.readByte (Memory.writeByte m a v) b = v := by
  simp only [Memory.readByte, Memory.writeByte, ha, hb]
  exact Memory.readKey_writeKey_self k v hm

/-- A read through an address that routes elsewhere, or nowhere, sees nothing of a write. -/
theorem Memory.readByte_writeByte_other (m : Memory) {a b : Word} (v : Byte) (h : keyOf b ≠ keyOf a) :
    Memory.readByte (Memory.writeByte m a v) b = Memory.readByte m b := by
  unfold Memory.readByte Memory.writeByte
  cases ha : keyOf a with
  | none => rfl
  | some k =>
    cases hb : keyOf b with
    | none => rfl
    | some j =>
      refine Memory.readKey_writeKey_ne m v ?_
      intro e
      subst e
      exact h (hb.trans ha.symm)

/-- A write to an unmapped address changes nothing (20_memory.md R63, R66). -/
theorem Memory.writeByte_unmapped (m : Memory) {a : Word} (v : Byte) (h : keyOf a = none) :
    Memory.writeByte m a v = m := by
  simp only [Memory.writeByte, h]

/-- An unmapped address reads as 0 (20_memory.md R62, R66). -/
theorem Memory.readByte_unmapped (m : Memory) {a : Word} (h : keyOf a = none) : Memory.readByte m a = 0 := by
  simp only [Memory.readByte, h]

/-- Two addresses name the same byte only where they are equal or a mirror pair (20_memory.md R65, R84). -/
theorem keyOf_inj {a b : Word} {k : Nat} (ha : keyOf a = some k) (hb : keyOf b = some k) :
    a = b ∨ a.toNat = b.toNat + 0x2000 ∨ b.toNat = a.toNat + 0x2000 := by
  rw [keyOf_eq] at ha hb
  have h : a.toNat = b.toNat ∨ a.toNat = b.toNat + 0x2000 ∨ b.toNat = a.toNat + 0x2000 := by
    repeat' split at ha
    all_goals repeat' split at hb
    all_goals simp only [Option.some.injEq, reduceCtorEq] at ha hb
    all_goals omega
  rcases h with h | h
  · exact .inl (BitVec.eq_of_toNat_eq h)
  · exact .inr h

/-- The addresses that route to no store are 0xFEA0 to 0xFEFF (20_memory.md R66). -/
theorem keyOf_eq_none_iff {a : Word} : keyOf a = none ↔ 0xFEA0 ≤ a.toNat ∧ a.toNat ≤ 0xFEFF := by
  rw [keyOf_eq]
  repeat' split
  all_goals simp only [reduceCtorEq, true_iff, false_iff]
  all_goals omega

theorem exists_keyOf_eq {a : Word} (h : ¬ (0xFEA0 ≤ a.toNat ∧ a.toNat ≤ 0xFEFF)) : ∃ k, keyOf a = some k :=
  Option.ne_none_iff_exists'.mp fun e => h (keyOf_eq_none_iff.mp e)

/-- Outside the mirror the key of a mapped address is the address. -/
theorem keyOf_ofNat {k : Nat} (h : validKey k = true) : keyOf (BitVec.ofNat 16 k) = some k := by
  unfold validKey at h
  simp only [Bool.or_eq_true, Bool.and_eq_true, decide_eq_true_eq] at h
  have hk : k < 2 ^ 16 := by omega
  rw [keyOf_eq, BitVec.toNat_ofNat, Nat.mod_eq_of_lt hk]
  repeat' split
  all_goals first | omega | rfl

/-- A key that no store has is never listed. -/
theorem Memory.readKey_of_not_valid {lo k : Nat} {m : Memory} (hm : Memory.wfFrom lo m = true)
    (hk : validKey k = false) : Memory.readKey m k = unlistedByte k := by
  induction m generalizing lo with
  | nil => rfl
  | cons p m ih =>
    obtain ⟨k', v⟩ := p
    simp only [Memory.wfFrom, Bool.and_eq_true, decide_eq_true_eq] at hm
    have hne : k ≠ k' := by
      rintro rfl
      simp [hk] at hm
    simp only [Memory.readKey, hne, if_false]
    exact ih hm.2

/-- Two canonical memories that read alike at every address are equal. -/
theorem Memory.eq_of_readByte {m m' : Memory} (hm : Memory.wf m = true) (hm' : Memory.wf m' = true)
    (h : ∀ a : Word, Memory.readByte m a = Memory.readByte m' a) : m = m' := by
  refine Memory.eq_of_readKey hm hm' fun k => ?_
  cases hk : validKey k with
  | false => rw [Memory.readKey_of_not_valid hm hk, Memory.readKey_of_not_valid hm' hk]
  | true => simpa only [Memory.readByte, keyOf_ofNat hk] using h (BitVec.ofNat 16 k)

end Sys2Proof.Machine
end

