-- ==== Sys2Proof/Laws/Construct.lean ====
section
/-!
SUPPORT. The laws of filling the stores at `construct`.
-/
namespace Sys2Proof.Machine

/-- Filling leaves the keys outside its range alone. -/
theorem readKey_fillFrom_outside (vs : List Byte) (m : Memory) (k j : Nat) (h : j < k ∨ k + vs.length ≤ j) :
    Memory.readKey (fillFrom m k vs) j = Memory.readKey m j := by
  induction vs generalizing m k with
  | nil => rfl
  | cons v vs ih =>
    simp only [List.length_cons] at h
    rw [fillFrom, ih _ _ (by omega), Memory.readKey_writeKey_ne m v (by omega)]

/-- Filling a range of keys of stores keeps the canonical form. -/
theorem wf_fillFrom (vs : List Byte) (m : Memory) (k : Nat) (hm : Memory.wf m = true)
    (hk : ∀ j, k ≤ j → j < k + vs.length → validKey j = true) : Memory.wf (fillFrom m k vs) = true := by
  induction vs generalizing m k with
  | nil => exact hm
  | cons v vs ih =>
    simp only [List.length_cons] at hk
    refine ih _ _ (Memory.wfFrom_writeKey v (Nat.zero_le _) (hk k (Nat.le_refl _) (by omega)) hm) fun j h1 h2 => ?_
    exact hk j (by omega) (by omega)

/-- Filling puts byte `n` of the list at the key `n` above the first one. -/
theorem readKey_fillFrom_inside (vs : List Byte) (m : Memory) (k n : Nat) (hm : Memory.wf m = true)
    (hk : ∀ j, k ≤ j → j < k + vs.length → validKey j = true) (h : n < vs.length) :
    Memory.readKey (fillFrom m k vs) (k + n) = vs[n] := by
  induction vs generalizing m k n with
  | nil => exact absurd h (Nat.not_lt_zero _)
  | cons v vs ih =>
    simp only [List.length_cons] at hk h
    have hw : Memory.wf (Memory.writeKey m k v) = true :=
      Memory.wfFrom_writeKey v (Nat.zero_le _) (hk k (Nat.le_refl _) (by omega)) hm
    cases n with
    | zero =>
      rw [fillFrom, readKey_fillFrom_outside _ _ _ _ (by omega)]
      exact Memory.readKey_writeKey_self k v hm
    | succ n =>
      have := ih (Memory.writeKey m k v) (k + 1) n hw (fun j h1 h2 => hk j (by omega) (by omega)) (by omega)
      rw [fillFrom, show k + (n + 1) = k + 1 + n by omega, this]
      rfl

/-- Seeding the I/O page keeps the canonical form. -/
theorem wf_seedIo (l : List (Word × Byte)) (m : Memory) (hm : Memory.wf m = true) : Memory.wf (seedIo m l) = true := by
  induction l generalizing m with
  | nil => exact hm
  | cons p l ih => exact ih _ (Memory.wf_writeByte _ _ hm)

/-- Seeding leaves alone every key that none of its addresses routes to. -/
theorem readKey_seedIo_outside (l : List (Word × Byte)) (m : Memory) (k : Nat) (h : ∀ p ∈ l, keyOf p.1 ≠ some k) :
    Memory.readKey (seedIo m l) k = Memory.readKey m k := by
  induction l generalizing m with
  | nil => rfl
  | cons p l ih =>
    rw [seedIo, ih _ fun q hq => h q (List.mem_cons_of_mem _ hq)]
    cases hp : keyOf p.1 with
    | none => rw [Memory.writeByte_unmapped _ _ hp]
    | some j =>
      simp only [Memory.writeByte, hp]
      refine Memory.readKey_writeKey_ne m p.2 ?_
      rintro rfl
      exact h p (List.mem_cons_self ..) hp

/-- `seedOk` says what an `IO_SEED` is (70_reset_and_hazards.md R643). -/
theorem seedOk_iff (l : List (Word × Byte)) :
    seedOk l = true ↔ (∀ p ∈ l, 0xFF00 ≤ p.1) ∧ l.Pairwise fun p q => p.1 ≠ q.1 := by
  induction l with
  | nil => simp [seedOk]
  | cons p l ih =>
    have hsym : (∀ q ∈ l, ¬ q.1 = p.1) ↔ ∀ q ∈ l, ¬ p.1 = q.1 :=
      ⟨fun h q hq e => h q hq e.symm, fun h q hq e => h q hq e.symm⟩
    simp only [seedOk, Bool.and_eq_true, decide_eq_true_eq, ih, List.all_eq_true, bne_iff_ne, ne_eq,
      List.mem_cons, forall_eq_or_imp, List.pairwise_cons, hsym]
    exact ⟨fun h => ⟨⟨h.1.1, h.2.1⟩, h.1.2, h.2.2⟩, fun h => ⟨⟨h.1.1, h.2.1⟩, h.1.2, h.2.2⟩⟩

end Sys2Proof.Machine
end

