-- ==== Sys2Proof/Laws/Decode.lean ====
section
/-!
SUPPORT. Packing and unpacking, and what the two 256-entry tables say of each other.
-/
namespace Sys2Proof

theorem pack_toNat (hi lo : Byte) : (pack hi lo).toNat = hi.toNat * 256 + lo.toNat := by
  unfold pack
  rw [BitVec.toNat_append, ← Nat.shiftLeft_add_eq_or_of_lt lo.isLt, Nat.shiftLeft_eq]

theorem unpack_fst_toNat (v : Word) : (unpack v).1.toNat = v.toNat / 256 := by
  have h := v.isLt
  simp only [unpack, BitVec.extractLsb'_toNat, Nat.shiftRight_eq_div_pow]
  omega

theorem unpack_snd_toNat (v : Word) : (unpack v).2.toNat = v.toNat % 256 := by
  simp only [unpack, BitVec.extractLsb'_toNat, Nat.shiftRight_eq_div_pow]
  omega

/-- `pack(unpack(v)) == v` (00_scope.md R8). -/
@[simp] theorem pack_of_unpack (v : Word) : pack (unpack v).1 (unpack v).2 = v := by
  apply BitVec.eq_of_toNat_eq
  rw [pack_toNat, unpack_fst_toNat, unpack_snd_toNat]
  omega

/-- `unpack(pack(hi, lo)) == (hi, lo)` (00_scope.md R8). -/
@[simp] theorem unpack_of_pack (hi lo : Byte) : unpack (pack hi lo) = (hi, lo) := by
  have h := lo.isLt
  have h1 : (unpack (pack hi lo)).1 = hi := BitVec.eq_of_toNat_eq (by rw [unpack_fst_toNat, pack_toNat]; omega)
  have h2 : (unpack (pack hi lo)).2 = lo := BitVec.eq_of_toNat_eq (by rw [unpack_snd_toNat, pack_toNat]; omega)
  exact Prod.ext h1 h2

/-- A word with a zero high byte is the byte widened. -/
theorem pack_zero (v : Byte) : pack 0 v = zext16 v := by
  apply BitVec.eq_of_toNat_eq
  have h := v.isLt
  have h0 : (0 : Byte).toNat = 0 := rfl
  rw [pack_toNat, zext16, BitVec.toNat_setWidth, h0]
  omega

/-- The operand field of a format, from the two candidate fields. -/
def Format.operand (f : Format) (imm8 : Byte) (imm16 : Word) : Operand :=
  match f with
  | .OP => .none
  | .OP_D8 => .imm8 imm8
  | .OP_D16 => .imm16 imm16

set_option maxRecDepth 8000 in
theorem instrTable_opcode (imm8 : Byte) (imm16 : Word) :
    (instrTable imm8 imm16).map Instr.opcode = (List.range 256).map (BitVec.ofNat 8) := rfl

set_option maxRecDepth 8000 in
theorem instrTable_operand (imm8 : Byte) (imm16 : Word) :
    (instrTable imm8 imm16).map Instr.operand = opcodeTable.map fun e => e.format.operand imm8 imm16 := rfl

set_option maxRecDepth 8000 in
theorem instrTable_length (imm8 : Byte) (imm16 : Word) : (instrTable imm8 imm16).length = 256 := rfl

set_option maxRecDepth 8000 in
theorem opcodeTable_length : opcodeTable.length = 256 := rfl

theorem instrOf_eq (b0 imm8 : Byte) (imm16 : Word) :
    instrOf b0 imm8 imm16 = (instrTable imm8 imm16)[b0.toNat]'(by rw [instrTable_length]; exact b0.isLt) := by
  have h : b0.toNat < (instrTable imm8 imm16).length := by rw [instrTable_length]; exact b0.isLt
  rw [instrOf, List.getD_eq_getElem?_getD, List.getElem?_eq_getElem h, Option.getD_some]

theorem opcodeEntry_eq (b0 : Byte) :
    opcodeEntry b0 = opcodeTable[b0.toNat]'(by rw [opcodeTable_length]; exact b0.isLt) := by
  have h : b0.toNat < opcodeTable.length := by rw [opcodeTable_length]; exact b0.isLt
  rw [opcodeEntry, List.getD_eq_getElem?_getD, List.getElem?_eq_getElem h, Option.getD_some]

/-- The instruction of an opcode byte has that opcode. -/
theorem opcode_instrOf (b0 imm8 : Byte) (imm16 : Word) : (instrOf b0 imm8 imm16).opcode = b0 := by
  have h := congrArg (fun l => l[b0.toNat]?) (instrTable_opcode imm8 imm16)
  have hb : b0.toNat < 256 := b0.isLt
  have hl : b0.toNat < (instrTable imm8 imm16).length := by rw [instrTable_length]; exact hb
  simp only [List.getElem?_map, List.getElem?_eq_getElem hl, List.getElem?_range hb, Option.map_some,
    Option.some.injEq] at h
  rw [instrOf_eq, h, BitVec.ofNat_toNat, BitVec.setWidth_eq]

/-- The instruction of an opcode byte has the operand field of the entry's format. -/
theorem operand_instrOf (b0 imm8 : Byte) (imm16 : Word) :
    (instrOf b0 imm8 imm16).operand = (opcodeEntry b0).format.operand imm8 imm16 := by
  have h := congrArg (fun l => l[b0.toNat]?) (instrTable_operand imm8 imm16)
  have hl : b0.toNat < (instrTable imm8 imm16).length := by rw [instrTable_length]; exact b0.isLt
  have he : b0.toNat < opcodeTable.length := by rw [opcodeTable_length]; exact b0.isLt
  simp only [List.getElem?_map, List.getElem?_eq_getElem hl, List.getElem?_eq_getElem he, Option.map_some,
    Option.some.injEq] at h
  rw [instrOf_eq, opcodeEntry_eq, h]

/-- The entry of the instruction of an opcode byte is the entry of the byte. -/
theorem entry_instrOf (b0 imm8 : Byte) (imm16 : Word) : (instrOf b0 imm8 imm16).entry = opcodeEntry b0 := by
  unfold Instr.entry
  rw [opcode_instrOf]

/-- An instruction is the one of its opcode and its operand field. -/
theorem instrOf_self (i : Instr) :
    instrOf i.opcode (i.operand.byte?.getD 0) (i.operand.word?.getD 0) = i := by
  cases i <;> rfl

/-- The operand field of an instruction is its entry's format's. -/
theorem operand_format (i : Instr) : i.operand.format = i.entry.format := by
  cases i <;> rfl

/-- An encoding begins with the opcode byte. -/
theorem encode_eq_cons (i : Instr) : ∃ rest, encode i = i.opcode :: rest := by
  unfold encode
  split
  · exact ⟨_, rfl⟩
  · exact ⟨_, rfl⟩
  · exact ⟨_, rfl⟩

/-! ### The decoder, format by format -/

theorem decode_OP {b0 : Byte} (rest : List Byte) (h : (opcodeEntry b0).format = .OP) :
    decode (b0 :: rest) = .ok (instrOf b0 0 0, rest) := by
  simp only [decode, h]

theorem decode_D8 {b0 : Byte} (b1 : Byte) (rest : List Byte) (h : (opcodeEntry b0).format = .OP_D8) :
    decode (b0 :: b1 :: rest) = .ok (instrOf b0 b1 0, rest) := by
  simp only [decode, h]

theorem decode_D8_short {b0 : Byte} (h : (opcodeEntry b0).format = .OP_D8) :
    decode [b0] = .error (.missingOperand b0) := by
  simp only [decode, h]

theorem decode_D16 {b0 : Byte} (b1 b2 : Byte) (rest : List Byte) (h : (opcodeEntry b0).format = .OP_D16) :
    decode (b0 :: b1 :: b2 :: rest) = .ok (instrOf b0 0 (pack b2 b1), rest) := by
  simp only [decode, h]

theorem decode_D16_short0 {b0 : Byte} (h : (opcodeEntry b0).format = .OP_D16) :
    decode [b0] = .error (.missingOperand b0) := by
  simp only [decode, h]

theorem decode_D16_short1 {b0 : Byte} (b1 : Byte) (h : (opcodeEntry b0).format = .OP_D16) :
    decode [b0, b1] = .error (.missingOperand b0) := by
  simp only [decode, h]

end Sys2Proof
end

