-- ==== Sys2Proof/Laws/State.lean ====
section
/-!
SUPPORT. One lemma per field per update of State, so that no proof unfolds a record update.
-/
namespace Sys2Proof.Machine

/-! ### `setPc` -/

@[simp] theorem State.setPc_a (s : State) (t : Word) : (s.setPc t).a = s.a := rfl
@[simp] theorem State.setPc_f (s : State) (t : Word) : (s.setPc t).f = s.f := rfl
@[simp] theorem State.setPc_b (s : State) (t : Word) : (s.setPc t).b = s.b := rfl
@[simp] theorem State.setPc_c (s : State) (t : Word) : (s.setPc t).c = s.c := rfl
@[simp] theorem State.setPc_d (s : State) (t : Word) : (s.setPc t).d = s.d := rfl
@[simp] theorem State.setPc_e (s : State) (t : Word) : (s.setPc t).e = s.e := rfl
@[simp] theorem State.setPc_h (s : State) (t : Word) : (s.setPc t).h = s.h := rfl
@[simp] theorem State.setPc_l (s : State) (t : Word) : (s.setPc t).l = s.l := rfl
@[simp] theorem State.setPc_sp (s : State) (t : Word) : (s.setPc t).sp = s.sp := rfl
@[simp] theorem State.setPc_pc (s : State) (t : Word) : (s.setPc t).pc = t := rfl
@[simp] theorem State.setPc_mem (s : State) (t : Word) : (s.setPc t).mem = s.mem := rfl
@[simp] theorem State.setPc_cfg (s : State) (t : Word) : (s.setPc t).cfg = s.cfg := rfl

/-! ### `advance` -/

@[simp] theorem advance_a (i : Instr) (s : State) : (advance i s).a = s.a := rfl
@[simp] theorem advance_f (i : Instr) (s : State) : (advance i s).f = s.f := rfl
@[simp] theorem advance_b (i : Instr) (s : State) : (advance i s).b = s.b := rfl
@[simp] theorem advance_c (i : Instr) (s : State) : (advance i s).c = s.c := rfl
@[simp] theorem advance_d (i : Instr) (s : State) : (advance i s).d = s.d := rfl
@[simp] theorem advance_e (i : Instr) (s : State) : (advance i s).e = s.e := rfl
@[simp] theorem advance_h (i : Instr) (s : State) : (advance i s).h = s.h := rfl
@[simp] theorem advance_l (i : Instr) (s : State) : (advance i s).l = s.l := rfl
@[simp] theorem advance_sp (i : Instr) (s : State) : (advance i s).sp = s.sp := rfl
@[simp] theorem advance_pc (i : Instr) (s : State) : (advance i s).pc = s.pc + BitVec.ofNat 16 i.length := rfl
@[simp] theorem advance_mem (i : Instr) (s : State) : (advance i s).mem = s.mem := rfl
@[simp] theorem advance_cfg (i : Instr) (s : State) : (advance i s).cfg = s.cfg := rfl

/-! ### `setF` -/

@[simp] theorem State.setF_a (s : State) (v : Byte) : (s.setF v).a = s.a := rfl
@[simp] theorem State.setF_f (s : State) (v : Byte) : (s.setF v).f = normF v := rfl
@[simp] theorem State.setF_b (s : State) (v : Byte) : (s.setF v).b = s.b := rfl
@[simp] theorem State.setF_c (s : State) (v : Byte) : (s.setF v).c = s.c := rfl
@[simp] theorem State.setF_d (s : State) (v : Byte) : (s.setF v).d = s.d := rfl
@[simp] theorem State.setF_e (s : State) (v : Byte) : (s.setF v).e = s.e := rfl
@[simp] theorem State.setF_h (s : State) (v : Byte) : (s.setF v).h = s.h := rfl
@[simp] theorem State.setF_l (s : State) (v : Byte) : (s.setF v).l = s.l := rfl
@[simp] theorem State.setF_sp (s : State) (v : Byte) : (s.setF v).sp = s.sp := rfl
@[simp] theorem State.setF_pc (s : State) (v : Byte) : (s.setF v).pc = s.pc := rfl
@[simp] theorem State.setF_mem (s : State) (v : Byte) : (s.setF v).mem = s.mem := rfl
@[simp] theorem State.setF_cfg (s : State) (v : Byte) : (s.setF v).cfg = s.cfg := rfl

/-! ### `writeByte` -/

@[simp] theorem State.writeByte_a (s : State) (a : Word) (v : Byte) : (s.writeByte a v).a = s.a := rfl
@[simp] theorem State.writeByte_f (s : State) (a : Word) (v : Byte) : (s.writeByte a v).f = s.f := rfl
@[simp] theorem State.writeByte_b (s : State) (a : Word) (v : Byte) : (s.writeByte a v).b = s.b := rfl
@[simp] theorem State.writeByte_c (s : State) (a : Word) (v : Byte) : (s.writeByte a v).c = s.c := rfl
@[simp] theorem State.writeByte_d (s : State) (a : Word) (v : Byte) : (s.writeByte a v).d = s.d := rfl
@[simp] theorem State.writeByte_e (s : State) (a : Word) (v : Byte) : (s.writeByte a v).e = s.e := rfl
@[simp] theorem State.writeByte_h (s : State) (a : Word) (v : Byte) : (s.writeByte a v).h = s.h := rfl
@[simp] theorem State.writeByte_l (s : State) (a : Word) (v : Byte) : (s.writeByte a v).l = s.l := rfl
@[simp] theorem State.writeByte_sp (s : State) (a : Word) (v : Byte) : (s.writeByte a v).sp = s.sp := rfl
@[simp] theorem State.writeByte_pc (s : State) (a : Word) (v : Byte) : (s.writeByte a v).pc = s.pc := rfl
@[simp] theorem State.writeByte_mem (s : State) (a : Word) (v : Byte) : (s.writeByte a v).mem = s.mem.writeByte a v := rfl
@[simp] theorem State.writeByte_cfg (s : State) (a : Word) (v : Byte) : (s.writeByte a v).cfg = s.cfg := rfl

/-! ### `writeWord` -/

@[simp] theorem State.writeWord_a (s : State) (a v : Word) : (s.writeWord a v).a = s.a := rfl
@[simp] theorem State.writeWord_f (s : State) (a v : Word) : (s.writeWord a v).f = s.f := rfl
@[simp] theorem State.writeWord_b (s : State) (a v : Word) : (s.writeWord a v).b = s.b := rfl
@[simp] theorem State.writeWord_c (s : State) (a v : Word) : (s.writeWord a v).c = s.c := rfl
@[simp] theorem State.writeWord_d (s : State) (a v : Word) : (s.writeWord a v).d = s.d := rfl
@[simp] theorem State.writeWord_e (s : State) (a v : Word) : (s.writeWord a v).e = s.e := rfl
@[simp] theorem State.writeWord_h (s : State) (a v : Word) : (s.writeWord a v).h = s.h := rfl
@[simp] theorem State.writeWord_l (s : State) (a v : Word) : (s.writeWord a v).l = s.l := rfl
@[simp] theorem State.writeWord_sp (s : State) (a v : Word) : (s.writeWord a v).sp = s.sp := rfl
@[simp] theorem State.writeWord_pc (s : State) (a v : Word) : (s.writeWord a v).pc = s.pc := rfl
@[simp] theorem State.writeWord_mem (s : State) (a v : Word) : (s.writeWord a v).mem = s.mem.writeWord a v := rfl
@[simp] theorem State.writeWord_cfg (s : State) (a v : Word) : (s.writeWord a v).cfg = s.cfg := rfl

/-! ### `setReg8` -/

@[simp] theorem State.setReg8_A_a (s : State) (v : Byte) : (s.setReg8 .A v).a = v := rfl
@[simp] theorem State.setReg8_A_f (s : State) (v : Byte) : (s.setReg8 .A v).f = s.f := rfl
@[simp] theorem State.setReg8_A_b (s : State) (v : Byte) : (s.setReg8 .A v).b = s.b := rfl
@[simp] theorem State.setReg8_A_c (s : State) (v : Byte) : (s.setReg8 .A v).c = s.c := rfl
@[simp] theorem State.setReg8_A_d (s : State) (v : Byte) : (s.setReg8 .A v).d = s.d := rfl
@[simp] theorem State.setReg8_A_e (s : State) (v : Byte) : (s.setReg8 .A v).e = s.e := rfl
@[simp] theorem State.setReg8_A_h (s : State) (v : Byte) : (s.setReg8 .A v).h = s.h := rfl
@[simp] theorem State.setReg8_A_l (s : State) (v : Byte) : (s.setReg8 .A v).l = s.l := rfl
@[simp] theorem State.setReg8_A_sp (s : State) (v : Byte) : (s.setReg8 .A v).sp = s.sp := rfl
@[simp] theorem State.setReg8_A_pc (s : State) (v : Byte) : (s.setReg8 .A v).pc = s.pc := rfl
@[simp] theorem State.setReg8_A_mem (s : State) (v : Byte) : (s.setReg8 .A v).mem = s.mem := rfl
@[simp] theorem State.setReg8_A_cfg (s : State) (v : Byte) : (s.setReg8 .A v).cfg = s.cfg := rfl
@[simp] theorem State.setReg8_B_a (s : State) (v : Byte) : (s.setReg8 .B v).a = s.a := rfl
@[simp] theorem State.setReg8_B_f (s : State) (v : Byte) : (s.setReg8 .B v).f = s.f := rfl
@[simp] theorem State.setReg8_B_b (s : State) (v : Byte) : (s.setReg8 .B v).b = v := rfl
@[simp] theorem State.setReg8_B_c (s : State) (v : Byte) : (s.setReg8 .B v).c = s.c := rfl
@[simp] theorem State.setReg8_B_d (s : State) (v : Byte) : (s.setReg8 .B v).d = s.d := rfl
@[simp] theorem State.setReg8_B_e (s : State) (v : Byte) : (s.setReg8 .B v).e = s.e := rfl
@[simp] theorem State.setReg8_B_h (s : State) (v : Byte) : (s.setReg8 .B v).h = s.h := rfl
@[simp] theorem State.setReg8_B_l (s : State) (v : Byte) : (s.setReg8 .B v).l = s.l := rfl
@[simp] theorem State.setReg8_B_sp (s : State) (v : Byte) : (s.setReg8 .B v).sp = s.sp := rfl
@[simp] theorem State.setReg8_B_pc (s : State) (v : Byte) : (s.setReg8 .B v).pc = s.pc := rfl
@[simp] theorem State.setReg8_B_mem (s : State) (v : Byte) : (s.setReg8 .B v).mem = s.mem := rfl
@[simp] theorem State.setReg8_B_cfg (s : State) (v : Byte) : (s.setReg8 .B v).cfg = s.cfg := rfl
@[simp] theorem State.setReg8_C_a (s : State) (v : Byte) : (s.setReg8 .C v).a = s.a := rfl
@[simp] theorem State.setReg8_C_f (s : State) (v : Byte) : (s.setReg8 .C v).f = s.f := rfl
@[simp] theorem State.setReg8_C_b (s : State) (v : Byte) : (s.setReg8 .C v).b = s.b := rfl
@[simp] theorem State.setReg8_C_c (s : State) (v : Byte) : (s.setReg8 .C v).c = v := rfl
@[simp] theorem State.setReg8_C_d (s : State) (v : Byte) : (s.setReg8 .C v).d = s.d := rfl
@[simp] theorem State.setReg8_C_e (s : State) (v : Byte) : (s.setReg8 .C v).e = s.e := rfl
@[simp] theorem State.setReg8_C_h (s : State) (v : Byte) : (s.setReg8 .C v).h = s.h := rfl
@[simp] theorem State.setReg8_C_l (s : State) (v : Byte) : (s.setReg8 .C v).l = s.l := rfl
@[simp] theorem State.setReg8_C_sp (s : State) (v : Byte) : (s.setReg8 .C v).sp = s.sp := rfl
@[simp] theorem State.setReg8_C_pc (s : State) (v : Byte) : (s.setReg8 .C v).pc = s.pc := rfl
@[simp] theorem State.setReg8_C_mem (s : State) (v : Byte) : (s.setReg8 .C v).mem = s.mem := rfl
@[simp] theorem State.setReg8_C_cfg (s : State) (v : Byte) : (s.setReg8 .C v).cfg = s.cfg := rfl
@[simp] theorem State.setReg8_D_a (s : State) (v : Byte) : (s.setReg8 .D v).a = s.a := rfl
@[simp] theorem State.setReg8_D_f (s : State) (v : Byte) : (s.setReg8 .D v).f = s.f := rfl
@[simp] theorem State.setReg8_D_b (s : State) (v : Byte) : (s.setReg8 .D v).b = s.b := rfl
@[simp] theorem State.setReg8_D_c (s : State) (v : Byte) : (s.setReg8 .D v).c = s.c := rfl
@[simp] theorem State.setReg8_D_d (s : State) (v : Byte) : (s.setReg8 .D v).d = v := rfl
@[simp] theorem State.setReg8_D_e (s : State) (v : Byte) : (s.setReg8 .D v).e = s.e := rfl
@[simp] theorem State.setReg8_D_h (s : State) (v : Byte) : (s.setReg8 .D v).h = s.h := rfl
@[simp] theorem State.setReg8_D_l (s : State) (v : Byte) : (s.setReg8 .D v).l = s.l := rfl
@[simp] theorem State.setReg8_D_sp (s : State) (v : Byte) : (s.setReg8 .D v).sp = s.sp := rfl
@[simp] theorem State.setReg8_D_pc (s : State) (v : Byte) : (s.setReg8 .D v).pc = s.pc := rfl
@[simp] theorem State.setReg8_D_mem (s : State) (v : Byte) : (s.setReg8 .D v).mem = s.mem := rfl
@[simp] theorem State.setReg8_D_cfg (s : State) (v : Byte) : (s.setReg8 .D v).cfg = s.cfg := rfl
@[simp] theorem State.setReg8_E_a (s : State) (v : Byte) : (s.setReg8 .E v).a = s.a := rfl
@[simp] theorem State.setReg8_E_f (s : State) (v : Byte) : (s.setReg8 .E v).f = s.f := rfl
@[simp] theorem State.setReg8_E_b (s : State) (v : Byte) : (s.setReg8 .E v).b = s.b := rfl
@[simp] theorem State.setReg8_E_c (s : State) (v : Byte) : (s.setReg8 .E v).c = s.c := rfl
@[simp] theorem State.setReg8_E_d (s : State) (v : Byte) : (s.setReg8 .E v).d = s.d := rfl
@[simp] theorem State.setReg8_E_e (s : State) (v : Byte) : (s.setReg8 .E v).e = v := rfl
@[simp] theorem State.setReg8_E_h (s : State) (v : Byte) : (s.setReg8 .E v).h = s.h := rfl
@[simp] theorem State.setReg8_E_l (s : State) (v : Byte) : (s.setReg8 .E v).l = s.l := rfl
@[simp] theorem State.setReg8_E_sp (s : State) (v : Byte) : (s.setReg8 .E v).sp = s.sp := rfl
@[simp] theorem State.setReg8_E_pc (s : State) (v : Byte) : (s.setReg8 .E v).pc = s.pc := rfl
@[simp] theorem State.setReg8_E_mem (s : State) (v : Byte) : (s.setReg8 .E v).mem = s.mem := rfl
@[simp] theorem State.setReg8_E_cfg (s : State) (v : Byte) : (s.setReg8 .E v).cfg = s.cfg := rfl
@[simp] theorem State.setReg8_H_a (s : State) (v : Byte) : (s.setReg8 .H v).a = s.a := rfl
@[simp] theorem State.setReg8_H_f (s : State) (v : Byte) : (s.setReg8 .H v).f = s.f := rfl
@[simp] theorem State.setReg8_H_b (s : State) (v : Byte) : (s.setReg8 .H v).b = s.b := rfl
@[simp] theorem State.setReg8_H_c (s : State) (v : Byte) : (s.setReg8 .H v).c = s.c := rfl
@[simp] theorem State.setReg8_H_d (s : State) (v : Byte) : (s.setReg8 .H v).d = s.d := rfl
@[simp] theorem State.setReg8_H_e (s : State) (v : Byte) : (s.setReg8 .H v).e = s.e := rfl
@[simp] theorem State.setReg8_H_h (s : State) (v : Byte) : (s.setReg8 .H v).h = v := rfl
@[simp] theorem State.setReg8_H_l (s : State) (v : Byte) : (s.setReg8 .H v).l = s.l := rfl
@[simp] theorem State.setReg8_H_sp (s : State) (v : Byte) : (s.setReg8 .H v).sp = s.sp := rfl
@[simp] theorem State.setReg8_H_pc (s : State) (v : Byte) : (s.setReg8 .H v).pc = s.pc := rfl
@[simp] theorem State.setReg8_H_mem (s : State) (v : Byte) : (s.setReg8 .H v).mem = s.mem := rfl
@[simp] theorem State.setReg8_H_cfg (s : State) (v : Byte) : (s.setReg8 .H v).cfg = s.cfg := rfl
@[simp] theorem State.setReg8_L_a (s : State) (v : Byte) : (s.setReg8 .L v).a = s.a := rfl
@[simp] theorem State.setReg8_L_f (s : State) (v : Byte) : (s.setReg8 .L v).f = s.f := rfl
@[simp] theorem State.setReg8_L_b (s : State) (v : Byte) : (s.setReg8 .L v).b = s.b := rfl
@[simp] theorem State.setReg8_L_c (s : State) (v : Byte) : (s.setReg8 .L v).c = s.c := rfl
@[simp] theorem State.setReg8_L_d (s : State) (v : Byte) : (s.setReg8 .L v).d = s.d := rfl
@[simp] theorem State.setReg8_L_e (s : State) (v : Byte) : (s.setReg8 .L v).e = s.e := rfl
@[simp] theorem State.setReg8_L_h (s : State) (v : Byte) : (s.setReg8 .L v).h = s.h := rfl
@[simp] theorem State.setReg8_L_l (s : State) (v : Byte) : (s.setReg8 .L v).l = v := rfl
@[simp] theorem State.setReg8_L_sp (s : State) (v : Byte) : (s.setReg8 .L v).sp = s.sp := rfl
@[simp] theorem State.setReg8_L_pc (s : State) (v : Byte) : (s.setReg8 .L v).pc = s.pc := rfl
@[simp] theorem State.setReg8_L_mem (s : State) (v : Byte) : (s.setReg8 .L v).mem = s.mem := rfl
@[simp] theorem State.setReg8_L_cfg (s : State) (v : Byte) : (s.setReg8 .L v).cfg = s.cfg := rfl
@[simp] theorem State.setReg8_f (s : State) (r : Reg8) (v : Byte) : (s.setReg8 r v).f = s.f := by cases r <;> rfl
@[simp] theorem State.setReg8_sp (s : State) (r : Reg8) (v : Byte) : (s.setReg8 r v).sp = s.sp := by cases r <;> rfl
@[simp] theorem State.setReg8_pc (s : State) (r : Reg8) (v : Byte) : (s.setReg8 r v).pc = s.pc := by cases r <;> rfl
@[simp] theorem State.setReg8_mem (s : State) (r : Reg8) (v : Byte) : (s.setReg8 r v).mem = s.mem := by cases r <;> rfl
@[simp] theorem State.setReg8_cfg (s : State) (r : Reg8) (v : Byte) : (s.setReg8 r v).cfg = s.cfg := by cases r <;> rfl

/-! ### `setPair` -/

@[simp] theorem State.setPair_AF_a (s : State) (v : Word) : (s.setPair .AF v).a = (unpack v).1 := rfl
@[simp] theorem State.setPair_AF_f (s : State) (v : Word) : (s.setPair .AF v).f = normF (unpack v).2 := rfl
@[simp] theorem State.setPair_AF_b (s : State) (v : Word) : (s.setPair .AF v).b = s.b := rfl
@[simp] theorem State.setPair_AF_c (s : State) (v : Word) : (s.setPair .AF v).c = s.c := rfl
@[simp] theorem State.setPair_AF_d (s : State) (v : Word) : (s.setPair .AF v).d = s.d := rfl
@[simp] theorem State.setPair_AF_e (s : State) (v : Word) : (s.setPair .AF v).e = s.e := rfl
@[simp] theorem State.setPair_AF_h (s : State) (v : Word) : (s.setPair .AF v).h = s.h := rfl
@[simp] theorem State.setPair_AF_l (s : State) (v : Word) : (s.setPair .AF v).l = s.l := rfl
@[simp] theorem State.setPair_AF_sp (s : State) (v : Word) : (s.setPair .AF v).sp = s.sp := rfl
@[simp] theorem State.setPair_AF_pc (s : State) (v : Word) : (s.setPair .AF v).pc = s.pc := rfl
@[simp] theorem State.setPair_AF_mem (s : State) (v : Word) : (s.setPair .AF v).mem = s.mem := rfl
@[simp] theorem State.setPair_AF_cfg (s : State) (v : Word) : (s.setPair .AF v).cfg = s.cfg := rfl
@[simp] theorem State.setPair_BC_a (s : State) (v : Word) : (s.setPair .BC v).a = s.a := rfl
@[simp] theorem State.setPair_BC_f (s : State) (v : Word) : (s.setPair .BC v).f = s.f := rfl
@[simp] theorem State.setPair_BC_b (s : State) (v : Word) : (s.setPair .BC v).b = (unpack v).1 := rfl
@[simp] theorem State.setPair_BC_c (s : State) (v : Word) : (s.setPair .BC v).c = (unpack v).2 := rfl
@[simp] theorem State.setPair_BC_d (s : State) (v : Word) : (s.setPair .BC v).d = s.d := rfl
@[simp] theorem State.setPair_BC_e (s : State) (v : Word) : (s.setPair .BC v).e = s.e := rfl
@[simp] theorem State.setPair_BC_h (s : State) (v : Word) : (s.setPair .BC v).h = s.h := rfl
@[simp] theorem State.setPair_BC_l (s : State) (v : Word) : (s.setPair .BC v).l = s.l := rfl
@[simp] theorem State.setPair_BC_sp (s : State) (v : Word) : (s.setPair .BC v).sp = s.sp := rfl
@[simp] theorem State.setPair_BC_pc (s : State) (v : Word) : (s.setPair .BC v).pc = s.pc := rfl
@[simp] theorem State.setPair_BC_mem (s : State) (v : Word) : (s.setPair .BC v).mem = s.mem := rfl
@[simp] theorem State.setPair_BC_cfg (s : State) (v : Word) : (s.setPair .BC v).cfg = s.cfg := rfl
@[simp] theorem State.setPair_DE_a (s : State) (v : Word) : (s.setPair .DE v).a = s.a := rfl
@[simp] theorem State.setPair_DE_f (s : State) (v : Word) : (s.setPair .DE v).f = s.f := rfl
@[simp] theorem State.setPair_DE_b (s : State) (v : Word) : (s.setPair .DE v).b = s.b := rfl
@[simp] theorem State.setPair_DE_c (s : State) (v : Word) : (s.setPair .DE v).c = s.c := rfl
@[simp] theorem State.setPair_DE_d (s : State) (v : Word) : (s.setPair .DE v).d = (unpack v).1 := rfl
@[simp] theorem State.setPair_DE_e (s : State) (v : Word) : (s.setPair .DE v).e = (unpack v).2 := rfl
@[simp] theorem State.setPair_DE_h (s : State) (v : Word) : (s.setPair .DE v).h = s.h := rfl
@[simp] theorem State.setPair_DE_l (s : State) (v : Word) : (s.setPair .DE v).l = s.l := rfl
@[simp] theorem State.setPair_DE_sp (s : State) (v : Word) : (s.setPair .DE v).sp = s.sp := rfl
@[simp] theorem State.setPair_DE_pc (s : State) (v : Word) : (s.setPair .DE v).pc = s.pc := rfl
@[simp] theorem State.setPair_DE_mem (s : State) (v : Word) : (s.setPair .DE v).mem = s.mem := rfl
@[simp] theorem State.setPair_DE_cfg (s : State) (v : Word) : (s.setPair .DE v).cfg = s.cfg := rfl
@[simp] theorem State.setPair_HL_a (s : State) (v : Word) : (s.setPair .HL v).a = s.a := rfl
@[simp] theorem State.setPair_HL_f (s : State) (v : Word) : (s.setPair .HL v).f = s.f := rfl
@[simp] theorem State.setPair_HL_b (s : State) (v : Word) : (s.setPair .HL v).b = s.b := rfl
@[simp] theorem State.setPair_HL_c (s : State) (v : Word) : (s.setPair .HL v).c = s.c := rfl
@[simp] theorem State.setPair_HL_d (s : State) (v : Word) : (s.setPair .HL v).d = s.d := rfl
@[simp] theorem State.setPair_HL_e (s : State) (v : Word) : (s.setPair .HL v).e = s.e := rfl
@[simp] theorem State.setPair_HL_h (s : State) (v : Word) : (s.setPair .HL v).h = (unpack v).1 := rfl
@[simp] theorem State.setPair_HL_l (s : State) (v : Word) : (s.setPair .HL v).l = (unpack v).2 := rfl
@[simp] theorem State.setPair_HL_sp (s : State) (v : Word) : (s.setPair .HL v).sp = s.sp := rfl
@[simp] theorem State.setPair_HL_pc (s : State) (v : Word) : (s.setPair .HL v).pc = s.pc := rfl
@[simp] theorem State.setPair_HL_mem (s : State) (v : Word) : (s.setPair .HL v).mem = s.mem := rfl
@[simp] theorem State.setPair_HL_cfg (s : State) (v : Word) : (s.setPair .HL v).cfg = s.cfg := rfl
@[simp] theorem State.setPair_sp (s : State) (rr : Pair) (v : Word) : (s.setPair rr v).sp = s.sp := by cases rr <;> rfl
@[simp] theorem State.setPair_pc (s : State) (rr : Pair) (v : Word) : (s.setPair rr v).pc = s.pc := by cases rr <;> rfl
@[simp] theorem State.setPair_mem (s : State) (rr : Pair) (v : Word) : (s.setPair rr v).mem = s.mem := by cases rr <;> rfl
@[simp] theorem State.setPair_cfg (s : State) (rr : Pair) (v : Word) : (s.setPair rr v).cfg = s.cfg := by cases rr <;> rfl

/-! ### Readers -/

@[simp] theorem State.reg8_A (s : State) : s.reg8 .A = s.a := rfl
@[simp] theorem State.reg8_B (s : State) : s.reg8 .B = s.b := rfl
@[simp] theorem State.reg8_C (s : State) : s.reg8 .C = s.c := rfl
@[simp] theorem State.reg8_D (s : State) : s.reg8 .D = s.d := rfl
@[simp] theorem State.reg8_E (s : State) : s.reg8 .E = s.e := rfl
@[simp] theorem State.reg8_H (s : State) : s.reg8 .H = s.h := rfl
@[simp] theorem State.reg8_L (s : State) : s.reg8 .L = s.l := rfl

@[simp] theorem State.reg8_setReg8 (s : State) (r q : Reg8) (v : Byte) :
    (s.setReg8 r v).reg8 q = if q = r then v else s.reg8 q := by
  cases r <;> cases q <;> rfl

@[simp] theorem State.reg8_setPc (s : State) (t : Word) (r : Reg8) : (s.setPc t).reg8 r = s.reg8 r := by
  cases r <;> rfl

@[simp] theorem State.reg8_advance (i : Instr) (s : State) (r : Reg8) : (advance i s).reg8 r = s.reg8 r := by
  cases r <;> rfl

@[simp] theorem State.reg8_setF (s : State) (v : Byte) (r : Reg8) : (s.setF v).reg8 r = s.reg8 r := by
  cases r <;> rfl

@[simp] theorem State.reg8_writeByte (s : State) (a : Word) (v : Byte) (r : Reg8) :
    (s.writeByte a v).reg8 r = s.reg8 r := by
  cases r <;> rfl

@[simp] theorem State.pair_setPc (s : State) (t : Word) (rr : Pair) : (s.setPc t).pair rr = s.pair rr := by
  cases rr <;> rfl

@[simp] theorem State.pair_advance (i : Instr) (s : State) (rr : Pair) : (advance i s).pair rr = s.pair rr := by
  cases rr <;> rfl

@[simp] theorem State.pair_writeByte (s : State) (a : Word) (v : Byte) (rr : Pair) :
    (s.writeByte a v).pair rr = s.pair rr := by
  cases rr <;> rfl

@[simp] theorem State.readByte_setPc (s : State) (t a : Word) : (s.setPc t).readByte a = s.readByte a := rfl
@[simp] theorem State.readByte_advance (i : Instr) (s : State) (a : Word) :
    (advance i s).readByte a = s.readByte a := rfl
@[simp] theorem State.readByte_setF (s : State) (v : Byte) (a : Word) : (s.setF v).readByte a = s.readByte a := rfl

@[simp] theorem State.readByte_setReg8 (s : State) (r : Reg8) (v : Byte) (a : Word) :
    (s.setReg8 r v).readByte a = s.readByte a := by
  cases r <;> rfl

@[simp] theorem State.readByte_setPair (s : State) (rr : Pair) (v a : Word) :
    (s.setPair rr v).readByte a = s.readByte a := by
  cases rr <;> rfl

@[simp] theorem addrPair_BC : addrPair .BC = .BC := rfl
@[simp] theorem addrPair_DE : addrPair .DE = .DE := rfl
@[simp] theorem addrPair_HL : addrPair .HL = .HL := rfl

end Sys2Proof.Machine
end

