-- ==== Sys2Proof/Laws/Operands.lean ====
section
/-!
SUPPORT. What resolving, reading and writing a Location can do, said once; and the outcome of a handler.
-/
namespace Sys2Proof.Machine

/-- Resolving a Location changes nothing, or the pair `HL` by one (40_step.md R139). -/
theorem resolve_state (i : Instr) (l : Loc) (s : State) :
    (resolve i l s).2 = s ∨ (resolve i l s).2 = s.setPair .HL (s.pair .HL + 1) ∨
      (resolve i l s).2 = s.setPair .HL (s.pair .HL - 1) := by
  cases l <;> first | exact .inl rfl | exact .inr (.inl rfl) | exact .inr (.inr rfl)

@[simp] theorem resolve_f (i : Instr) (l : Loc) (s : State) : (resolve i l s).2.f = s.f := by cases l <;> rfl
@[simp] theorem resolve_sp (i : Instr) (l : Loc) (s : State) : (resolve i l s).2.sp = s.sp := by cases l <;> rfl
@[simp] theorem resolve_pc (i : Instr) (l : Loc) (s : State) : (resolve i l s).2.pc = s.pc := by cases l <;> rfl
@[simp] theorem resolve_mem (i : Instr) (l : Loc) (s : State) : (resolve i l s).2.mem = s.mem := by cases l <;> rfl
@[simp] theorem resolve_cfg (i : Instr) (l : Loc) (s : State) : (resolve i l s).2.cfg = s.cfg := by cases l <;> rfl

/-- An 8-bit write goes to one register or to one byte of memory. -/
theorem write8_cases {p : Place} {v : Byte} {s t : State} (h : write8 p v s = some t) :
    (∃ r, p = .reg8 r ∧ t = s.setReg8 r v) ∨ (∃ a, p = .byteAt a ∧ t = s.writeByte a v) := by
  cases p <;> simp only [write8, Option.some.injEq, reduceCtorEq] at h
  · exact .inl ⟨_, rfl, h.symm⟩
  · exact .inr ⟨_, rfl, h.symm⟩

/-- A 16-bit write goes to one pair or to one word of memory. -/
theorem write16_cases {p : Place} {v : Word} {s t : State} (h : write16 p v s = some t) :
    (∃ rr, p = .reg16 rr ∧ t = s.setPair rr v) ∨ (∃ a, p = .wordAt a ∧ t = s.writeWord a v) := by
  cases p <;> simp only [write16, Option.some.injEq, reduceCtorEq] at h
  · exact .inl ⟨_, rfl, h.symm⟩
  · exact .inr ⟨_, rfl, h.symm⟩

theorem fetch8_some {i : Instr} {l : Loc} {s : State} {p : Byte × State} (h : fetch8 i l s = some p) :
    read8 (resolve i l s).1 (resolve i l s).2 = some p.1 ∧ p.2 = (resolve i l s).2 := by
  unfold fetch8 at h
  cases hr : read8 (resolve i l s).1 (resolve i l s).2 with
  | none => simp [hr] at h
  | some v =>
    simp only [hr, Option.map_some, Option.some.injEq] at h
    subst h
    exact ⟨rfl, rfl⟩

theorem fetch16_some {i : Instr} {l : Loc} {s : State} {p : Word × State} (h : fetch16 i l s = some p) :
    read16 (resolve i l s).1 (resolve i l s).2 = some p.1 ∧ p.2 = (resolve i l s).2 := by
  unfold fetch16 at h
  cases hr : read16 (resolve i l s).1 (resolve i l s).2 with
  | none => simp [hr] at h
  | some v =>
    simp only [hr, Option.map_some, Option.some.injEq] at h
    subst h
    exact ⟨rfl, rfl⟩

/-- A handler gives a next state exactly where its computation does. -/
theorem finish_next {i : Instr} {s t : State} {o : Option State} : finish i s o = .next t ↔ o = some t := by
  cases o <;> simp [finish, raise]

@[simp] theorem finish_some (i : Instr) (s t : State) : finish i s (some t) = .next t := rfl

@[simp] theorem finish_ne_refused (i : Instr) (s : State) (o : Option State) (r : Refusal) :
    finish i s o ≠ .refused r := by
  cases o <;> simp [finish, raise]

/-- A trap gives no next state. -/
@[simp] theorem raise_ne_next (k : TrapKind) (i : Instr) (s t : State) : raise k i s ≠ .next t := by
  cases k <;> simp [raise]

@[simp] theorem raise_ne_refused (k : TrapKind) (i : Instr) (s : State) (r : Refusal) : raise k i s ≠ .refused r := by
  cases k <;> simp [raise]

end Sys2Proof.Machine
end

