-- ==== Sys2Proof/Laws/Exec.lean ====
section
/-!
SUPPORT. One inversion lemma per handler: everything it can do when it gives a next state.
-/
namespace Sys2Proof.Machine

theorem handleNop_next {i : Instr} {s t : State} (h : handleNop i s = .next t) : t = advance i s := by
  simpa [handleNop] using h.symm

/-- `LD`: the source is read after the advance; then a register or a byte of memory is written. -/
theorem handleLd_next {i : Instr} {dest src : Loc} {s t : State} (h : handleLd i dest src s = .next t) :
    ∃ v s1 s2, read8 (resolve i src (advance i s)).1 s1 = some v ∧ s1 = (resolve i src (advance i s)).2 ∧
      s2 = (resolve i dest s1).2 ∧
      ((∃ r, (resolve i dest s1).1 = .reg8 r ∧ t = s2.setReg8 r v) ∨
        (∃ a, (resolve i dest s1).1 = .byteAt a ∧ t = s2.writeByte a v)) := by
  obtain ⟨p, hp, hw⟩ := Option.bind_eq_some_iff.mp (finish_next.mp h)
  obtain ⟨hr, hs⟩ := fetch8_some hp
  exact ⟨p.1, p.2, (resolve i dest p.2).2, hs ▸ hr, hs, rfl, write8_cases hw⟩

/-- `LD16`: the source is read after the advance; then a pair or a word of memory is written. -/
theorem handleLd16_next {i : Instr} {dest src : Loc} {s t : State} (h : handleLd16 i dest src s = .next t) :
    ∃ v s1 s2, read16 (resolve i src (advance i s)).1 s1 = some v ∧ s1 = (resolve i src (advance i s)).2 ∧
      s2 = (resolve i dest s1).2 ∧
      ((∃ rr, (resolve i dest s1).1 = .reg16 rr ∧ t = s2.setPair rr v) ∨
        (∃ a, (resolve i dest s1).1 = .wordAt a ∧ t = s2.writeWord a v)) := by
  obtain ⟨p, hp, hw⟩ := Option.bind_eq_some_iff.mp (finish_next.mp h)
  obtain ⟨hr, hs⟩ := fetch16_some hp
  exact ⟨p.1, p.2, (resolve i dest p.2).2, hs ▸ hr, hs, rfl, write16_cases hw⟩

/-- `JP`: the target is read after the advance and taken where the condition holds. -/
theorem handleJp_next {i : Instr} {c : Cond} {target : Loc} {s t : State} (h : handleJp i c target s = .next t) :
    ∃ v s1, read16 (resolve i target (advance i s)).1 s1 = some v ∧ s1 = (resolve i target (advance i s)).2 ∧
      t = if condHolds c s1.f then s1.setPc v else s1 := by
  obtain ⟨p, hp, ht⟩ := Option.map_eq_some_iff.mp (finish_next.mp h)
  obtain ⟨hr, hs⟩ := fetch16_some hp
  exact ⟨p.1, p.2, hs ▸ hr, hs, ht.symm⟩

theorem modify8_some {i : Instr} {l : Loc} {value : Byte → Byte} {flags : Byte → Byte → Byte} {s t : State}
    (h : modify8 i l value flags s = some t) :
    ∃ old u, read8 (resolve i l s).1 (resolve i l s).2 = some old ∧
      ((∃ r, (resolve i l s).1 = .reg8 r ∧ u = (resolve i l s).2.setReg8 r (value old)) ∨
        (∃ a, (resolve i l s).1 = .byteAt a ∧ u = (resolve i l s).2.writeByte a (value old))) ∧
      t = u.setF (flags u.f old) := by
  obtain ⟨old, hr, hm⟩ := Option.bind_eq_some_iff.mp h
  obtain ⟨u, hw, ht⟩ := Option.map_eq_some_iff.mp hm
  exact ⟨old, u, hr, write8_cases hw, ht.symm⟩

theorem modify16_some {i : Instr} {l : Loc} {value : Word → Word} {s t : State} (h : modify16 i l value s = some t) :
    ∃ old, read16 (resolve i l s).1 (resolve i l s).2 = some old ∧
      ((∃ rr, (resolve i l s).1 = .reg16 rr ∧ t = (resolve i l s).2.setPair rr (value old)) ∨
        (∃ a, (resolve i l s).1 = .wordAt a ∧ t = (resolve i l s).2.writeWord a (value old))) := by
  obtain ⟨old, hr, hw⟩ := Option.bind_eq_some_iff.mp h
  exact ⟨old, hr, write16_cases hw⟩

theorem handleInc_next {i : Instr} {l : Loc} {s t : State} (h : handleInc i l s = .next t) :
    modify8 i l (· + 1) incFlags (advance i s) = some t := finish_next.mp h

theorem handleDec_next {i : Instr} {l : Loc} {s t : State} (h : handleDec i l s = .next t) :
    modify8 i l (· - 1) decFlags (advance i s) = some t := finish_next.mp h

theorem handleInc16_next {i : Instr} {l : Loc} {s t : State} (h : handleInc16 i l s = .next t) :
    modify16 i l (· + 1) (advance i s) = some t := finish_next.mp h

theorem handleDec16_next {i : Instr} {l : Loc} {s t : State} (h : handleDec16 i l s = .next t) :
    modify16 i l (· - 1) (advance i s) = some t := finish_next.mp h

/-- `XOR`: the source is read, then the destination; the destination and the flags are written. -/
theorem handleXor_next {i : Instr} {dest src : Loc} {s t : State} (h : handleXor i dest src s = .next t) :
    ∃ v d s1 s2 u, read8 (resolve i src (advance i s)).1 s1 = some v ∧ s1 = (resolve i src (advance i s)).2 ∧
      s2 = (resolve i dest s1).2 ∧ read8 (resolve i dest s1).1 s2 = some d ∧
      ((∃ r, (resolve i dest s1).1 = .reg8 r ∧ u = s2.setReg8 r (d ^^^ v)) ∨
        (∃ a, (resolve i dest s1).1 = .byteAt a ∧ u = s2.writeByte a (d ^^^ v))) ∧
      t = u.setF (xorFlags u.f (d ^^^ v)) := by
  obtain ⟨p, hp, hd⟩ := Option.bind_eq_some_iff.mp (finish_next.mp h)
  obtain ⟨hr, hs⟩ := fetch8_some hp
  obtain ⟨d, hrd, hm⟩ := Option.bind_eq_some_iff.mp hd
  obtain ⟨u, hw, ht⟩ := Option.map_eq_some_iff.mp hm
  exact ⟨p.1, d, p.2, _, u, hs ▸ hr, hs, rfl, hrd, write8_cases hw, ht.symm⟩

/-- `CPL` changes `A`, `pc` and, under `CPL_SETS_NH`, `F`. -/
theorem handleCpl_next {i : Instr} {s t : State} (h : handleCpl i s = .next t) :
    t = if s.cfg.cplSetsNH then ((advance i s).setReg8 .A (~~~s.a)).setF (cplFlags s.f)
      else (advance i s).setReg8 .A (~~~s.a) := by
  simpa [handleCpl] using h.symm

/-- `CCF` changes `F` and `pc`. -/
theorem handleCcf_next {i : Instr} {s t : State} (h : handleCcf i s = .next t) :
    t = (advance i s).setF (ccfFlags s.cfg s.f) := by
  simpa [handleCcf] using h.symm

end Sys2Proof.Machine
end

