-- ==== Sys2Proof/Laws/Flags.lean ====
section
/-!
SUPPORT. What each flag operation and flag computation leaves, flag by flag.
-/
namespace Sys2Proof.Machine

theorem normF_and_low (v : Byte) : normF v &&& 0x0F = 0 := by
  unfold normF
  rw [BitVec.and_assoc]
  exact BitVec.and_zero

@[simp] theorem normF_normF (v : Byte) : normF (normF v) = normF v := by
  unfold normF
  rw [BitVec.and_assoc]
  rfl

/-- The bit number of a flag (10_state.md R22). -/
def flagBit : Flag → Nat
  | .Z => 7
  | .N => 6
  | .H => 5
  | .C => 4

/-- A Boolean fact of every byte, from the list of the 256 bytes. -/
theorem forall_byte {p : Byte → Bool} (h : ((List.range 256).all fun n => p (BitVec.ofNat 8 n)) = true) (b : Byte) :
    p b = true := by
  have := List.all_eq_true.mp h b.toNat (List.mem_range.mpr b.isLt)
  rwa [BitVec.ofNat_toNat, BitVec.setWidth_eq] at this

/-- An equation of every byte, from the list of the 256 bytes. -/
theorem byte_funext {α : Type} [DecidableEq α] {f g : Byte → α}
    (h : ((List.range 256).all fun n => f (BitVec.ofNat 8 n) == g (BitVec.ofNat 8 n)) = true) (b : Byte) :
    f b = g b :=
  beq_iff_eq.mp (forall_byte (p := fun b => f b == g b) h b)

theorem hasFlag_eq_getLsbD (fb : Byte) (f : Flag) : hasFlag fb f = fb.getLsbD (flagBit f) := by
  cases f <;>
    exact byte_funext (f := fun fb => hasFlag fb _) (g := fun fb => fb.getLsbD _) (by decide +kernel) fb

/-- `set_flag(f, b)` sets or clears exactly that bit (10_state.md R24). -/
theorem hasFlag_setFlag (fb : Byte) (f g : Flag) (b : Bool) :
    hasFlag (setFlag fb f b) g = if g = f then b else hasFlag fb g := by
  rw [hasFlag_eq_getLsbD, hasFlag_eq_getLsbD]
  cases f <;> cases g <;> cases b <;> simp [setFlag, normF, flagMask, flagBit]

/-- `flip_flag(f)` toggles exactly that bit (10_state.md R24). -/
theorem hasFlag_flipFlag (fb : Byte) (f g : Flag) :
    hasFlag (flipFlag fb f) g = if g = f then !hasFlag fb g else hasFlag fb g := by
  rw [hasFlag_eq_getLsbD, hasFlag_eq_getLsbD]
  cases f <;> cases g <;> simp [flipFlag, normF, flagMask, flagBit]

/-- `has_flag` sees the high nibble only. -/
theorem hasFlag_normF (fb : Byte) (f : Flag) : hasFlag (normF fb) f = hasFlag fb f := by
  rw [hasFlag_eq_getLsbD, hasFlag_eq_getLsbD]
  cases f <;> simp [normF, flagBit]

theorem normF_setFlag (fb : Byte) (f : Flag) (b : Bool) : normF (setFlag fb f b) = setFlag fb f b := normF_normF _

theorem hasFlag_incFlags (fb old : Byte) (f : Flag) : hasFlag (incFlags fb old) f =
    match f with
    | .Z => old + 1 == 0x00
    | .N => false
    | .H => old == 0xFF
    | .C => hasFlag fb .C := by
  unfold incFlags
  cases f <;> simp [hasFlag_setFlag]

theorem hasFlag_decFlags (fb old : Byte) (f : Flag) : hasFlag (decFlags fb old) f =
    match f with
    | .Z => old - 1 == 0x00
    | .N => true
    | .H => old == 0x00
    | .C => hasFlag fb .C := by
  unfold decFlags
  cases f <;> simp [hasFlag_setFlag]

theorem hasFlag_xorFlags (fb r : Byte) (f : Flag) : hasFlag (xorFlags fb r) f =
    match f with
    | .Z => r == 0x00
    | .N => false
    | .H => false
    | .C => false := by
  unfold xorFlags
  cases f <;> simp [hasFlag_setFlag]

/-- The flag byte after ZERO, SUBTRACT and HALF_CARRY are set to three values: CARRY alone is kept. -/
theorem setFlag_znh (fb : Byte) (z n h : Bool) : setFlag (setFlag (setFlag fb .Z z) .N n) .H h =
    (if z = true then 0x80 else 0x00) ||| (if n = true then 0x40 else 0x00) ||| (if h = true then 0x20 else 0x00) |||
      (fb &&& 0x10) := by
  cases z <;> cases n <;> cases h <;>
    exact byte_funext (f := fun fb => setFlag (setFlag (setFlag fb .Z _) .N _) .H _)
      (g := fun fb => _ ||| (fb &&& 0x10)) (by decide +kernel) fb

/-- The number 46_incdec.md R330 gives for `F` after `INC`. -/
theorem incFlags_eq (fb old : Byte) : incFlags fb old =
    (if old + 1 = 0x00 then 0x80 else 0x00) ||| (if old = 0xFF then 0x20 else 0x00) ||| (fb &&& 0x10) := by
  simp only [incFlags, setFlag_znh, beq_iff_eq, Bool.false_eq_true, if_false, BitVec.ofNat_eq_ofNat, BitVec.or_zero]

/-- The number 46_incdec.md R331 gives for `F` after `DEC`. -/
theorem decFlags_eq (fb old : Byte) : decFlags fb old =
    (if old - 1 = 0x00 then 0x80 else 0x00) ||| 0x40 ||| (if old = 0x00 then 0x20 else 0x00) ||| (fb &&& 0x10) := by
  simp only [decFlags, setFlag_znh, beq_iff_eq, if_true]

/-- The number 47_xor.md R360 gives for `F` after `XOR`. -/
theorem xorFlags_eq (fb r : Byte) : xorFlags fb r = if r = 0x00 then 0x80 else 0x00 := by
  have key : ∀ (b : Bool) (f : Byte), setFlag (setFlag (setFlag (setFlag f .Z b) .N false) .H false) .C false =
      if b = true then 0x80 else 0x00 := by
    intro b
    cases b <;> exact byte_funext (by decide +kernel)
  simp only [xorFlags, key, beq_iff_eq]

/-- The number 45_cpl_ccf.md R320 gives for `F` after `CPL` under `CPL_SETS_NH`. -/
theorem cplFlags_eq (fb : Byte) : cplFlags fb = (fb &&& 0x90) ||| 0x60 := by
  exact byte_funext (f := cplFlags) (g := fun fb => (fb &&& 0x90) ||| 0x60) (by decide +kernel) fb

/-- The number 45_cpl_ccf.md R321 gives for `F` after `CCF`. -/
theorem ccfFlags_eq (cfg : Config) (fb : Byte) : ccfFlags cfg fb =
    (fb &&& 0x80) ||| (if cfg.ccfNhValue = true then 0x60 else 0x00) ||| ((fb &&& 0x10) ^^^ 0x10) := by
  have key : ∀ (b : Bool) (f : Byte), setFlag (setFlag (flipFlag f .C) .N b) .H b =
      (f &&& 0x80) ||| (if b = true then 0x60 else 0x00) ||| ((f &&& 0x10) ^^^ 0x10) := by
    intro b
    cases b <;> exact byte_funext (by decide +kernel)
  exact key cfg.ccfNhValue fb

/-- Every flag computation gives a byte whose low nibble is 0. -/
theorem normF_incFlags (fb old : Byte) : normF (incFlags fb old) = incFlags fb old := normF_normF _
theorem normF_decFlags (fb old : Byte) : normF (decFlags fb old) = decFlags fb old := normF_normF _
theorem normF_xorFlags (fb r : Byte) : normF (xorFlags fb r) = xorFlags fb r := normF_normF _
theorem normF_cplFlags (fb : Byte) : normF (cplFlags fb) = cplFlags fb := normF_normF _
theorem normF_ccfFlags (cfg : Config) (fb : Byte) : normF (ccfFlags cfg fb) = ccfFlags cfg fb := normF_normF _

end Sys2Proof.Machine
end

