-- ==== Sys2Proof/Laws/PerInstr.lean ====
section
/-!
SUPPORT. The family `TableRow`: every instruction's table entry keeps the width contract (40_step.md R144), its operand
field is its format's, and its encoding has the length the table gives it (30_encoding.md R100).
-/
namespace Sys2Proof.Laws

/-- What every row of the opcode table satisfies. -/
def TableRow.Statement (i : Instr) : Prop := i.wellFormed = true ∧ (encode i).length = i.length

theorem TableRow.nop : TableRow.Statement .nop := ⟨rfl, rfl⟩
theorem TableRow.ld_BC_d16 (imm16 : Word) : TableRow.Statement (.ld_BC_d16 imm16) := ⟨rfl, rfl⟩
theorem TableRow.ld_indBC_A : TableRow.Statement .ld_indBC_A := ⟨rfl, rfl⟩
theorem TableRow.inc_BC : TableRow.Statement .inc_BC := ⟨rfl, rfl⟩
theorem TableRow.inc_B : TableRow.Statement .inc_B := ⟨rfl, rfl⟩
theorem TableRow.dec_B : TableRow.Statement .dec_B := ⟨rfl, rfl⟩
theorem TableRow.ld_B_d8 (imm8 : Byte) : TableRow.Statement (.ld_B_d8 imm8) := ⟨rfl, rfl⟩
theorem TableRow.rlca : TableRow.Statement .rlca := ⟨rfl, rfl⟩
theorem TableRow.ld_indA16_SP (imm16 : Word) : TableRow.Statement (.ld_indA16_SP imm16) := ⟨rfl, rfl⟩
theorem TableRow.add_HL_BC : TableRow.Statement .add_HL_BC := ⟨rfl, rfl⟩
theorem TableRow.ld_A_indBC : TableRow.Statement .ld_A_indBC := ⟨rfl, rfl⟩
theorem TableRow.dec_BC : TableRow.Statement .dec_BC := ⟨rfl, rfl⟩
theorem TableRow.inc_C : TableRow.Statement .inc_C := ⟨rfl, rfl⟩
theorem TableRow.dec_C : TableRow.Statement .dec_C := ⟨rfl, rfl⟩
theorem TableRow.ld_C_d8 (imm8 : Byte) : TableRow.Statement (.ld_C_d8 imm8) := ⟨rfl, rfl⟩
theorem TableRow.rrca : TableRow.Statement .rrca := ⟨rfl, rfl⟩
theorem TableRow.stop (imm8 : Byte) : TableRow.Statement (.stop imm8) := ⟨rfl, rfl⟩
theorem TableRow.ld_DE_d16 (imm16 : Word) : TableRow.Statement (.ld_DE_d16 imm16) := ⟨rfl, rfl⟩
theorem TableRow.ld_indDE_A : TableRow.Statement .ld_indDE_A := ⟨rfl, rfl⟩
theorem TableRow.inc_DE : TableRow.Statement .inc_DE := ⟨rfl, rfl⟩
theorem TableRow.inc_D : TableRow.Statement .inc_D := ⟨rfl, rfl⟩
theorem TableRow.dec_D : TableRow.Statement .dec_D := ⟨rfl, rfl⟩
theorem TableRow.ld_D_d8 (imm8 : Byte) : TableRow.Statement (.ld_D_d8 imm8) := ⟨rfl, rfl⟩
theorem TableRow.rla : TableRow.Statement .rla := ⟨rfl, rfl⟩
theorem TableRow.jr_r8 (imm8 : Byte) : TableRow.Statement (.jr_r8 imm8) := ⟨rfl, rfl⟩
theorem TableRow.add_HL_DE : TableRow.Statement .add_HL_DE := ⟨rfl, rfl⟩
theorem TableRow.ld_A_indDE : TableRow.Statement .ld_A_indDE := ⟨rfl, rfl⟩
theorem TableRow.dec_DE : TableRow.Statement .dec_DE := ⟨rfl, rfl⟩
theorem TableRow.inc_E : TableRow.Statement .inc_E := ⟨rfl, rfl⟩
theorem TableRow.dec_E : TableRow.Statement .dec_E := ⟨rfl, rfl⟩
theorem TableRow.ld_E_d8 (imm8 : Byte) : TableRow.Statement (.ld_E_d8 imm8) := ⟨rfl, rfl⟩
theorem TableRow.rra : TableRow.Statement .rra := ⟨rfl, rfl⟩
theorem TableRow.jr_NZ_r8 (imm8 : Byte) : TableRow.Statement (.jr_NZ_r8 imm8) := ⟨rfl, rfl⟩
theorem TableRow.ld_HL_d16 (imm16 : Word) : TableRow.Statement (.ld_HL_d16 imm16) := ⟨rfl, rfl⟩
theorem TableRow.ld_indHLinc_A : TableRow.Statement .ld_indHLinc_A := ⟨rfl, rfl⟩
theorem TableRow.inc_HL : TableRow.Statement .inc_HL := ⟨rfl, rfl⟩
theorem TableRow.inc_H : TableRow.Statement .inc_H := ⟨rfl, rfl⟩
theorem TableRow.dec_H : TableRow.Statement .dec_H := ⟨rfl, rfl⟩
theorem TableRow.ld_H_d8 (imm8 : Byte) : TableRow.Statement (.ld_H_d8 imm8) := ⟨rfl, rfl⟩
theorem TableRow.daa : TableRow.Statement .daa := ⟨rfl, rfl⟩
theorem TableRow.jr_Z_r8 (imm8 : Byte) : TableRow.Statement (.jr_Z_r8 imm8) := ⟨rfl, rfl⟩
theorem TableRow.add_HL_HL : TableRow.Statement .add_HL_HL := ⟨rfl, rfl⟩
theorem TableRow.ld_A_indHLinc : TableRow.Statement .ld_A_indHLinc := ⟨rfl, rfl⟩
theorem TableRow.dec_HL : TableRow.Statement .dec_HL := ⟨rfl, rfl⟩
theorem TableRow.inc_L : TableRow.Statement .inc_L := ⟨rfl, rfl⟩
theorem TableRow.dec_L : TableRow.Statement .dec_L := ⟨rfl, rfl⟩
theorem TableRow.ld_L_d8 (imm8 : Byte) : TableRow.Statement (.ld_L_d8 imm8) := ⟨rfl, rfl⟩
theorem TableRow.cpl : TableRow.Statement .cpl := ⟨rfl, rfl⟩
theorem TableRow.jr_NC_r8 (imm8 : Byte) : TableRow.Statement (.jr_NC_r8 imm8) := ⟨rfl, rfl⟩
theorem TableRow.ld_SP_d16 (imm16 : Word) : TableRow.Statement (.ld_SP_d16 imm16) := ⟨rfl, rfl⟩
theorem TableRow.ld_indHLdec_A : TableRow.Statement .ld_indHLdec_A := ⟨rfl, rfl⟩
theorem TableRow.inc_SP : TableRow.Statement .inc_SP := ⟨rfl, rfl⟩
theorem TableRow.inc_indHL : TableRow.Statement .inc_indHL := ⟨rfl, rfl⟩
theorem TableRow.dec_indHL : TableRow.Statement .dec_indHL := ⟨rfl, rfl⟩
theorem TableRow.ld_indHL_d8 (imm8 : Byte) : TableRow.Statement (.ld_indHL_d8 imm8) := ⟨rfl, rfl⟩
theorem TableRow.scf : TableRow.Statement .scf := ⟨rfl, rfl⟩
theorem TableRow.jr_C_r8 (imm8 : Byte) : TableRow.Statement (.jr_C_r8 imm8) := ⟨rfl, rfl⟩
theorem TableRow.add_HL_SP : TableRow.Statement .add_HL_SP := ⟨rfl, rfl⟩
theorem TableRow.ld_A_indHLdec : TableRow.Statement .ld_A_indHLdec := ⟨rfl, rfl⟩
theorem TableRow.dec_SP : TableRow.Statement .dec_SP := ⟨rfl, rfl⟩
theorem TableRow.inc_A : TableRow.Statement .inc_A := ⟨rfl, rfl⟩
theorem TableRow.dec_A : TableRow.Statement .dec_A := ⟨rfl, rfl⟩
theorem TableRow.ld_A_d8 (imm8 : Byte) : TableRow.Statement (.ld_A_d8 imm8) := ⟨rfl, rfl⟩
theorem TableRow.ccf : TableRow.Statement .ccf := ⟨rfl, rfl⟩
theorem TableRow.ld_B_B : TableRow.Statement .ld_B_B := ⟨rfl, rfl⟩
theorem TableRow.ld_B_C : TableRow.Statement .ld_B_C := ⟨rfl, rfl⟩
theorem TableRow.ld_B_D : TableRow.Statement .ld_B_D := ⟨rfl, rfl⟩
theorem TableRow.ld_B_E : TableRow.Statement .ld_B_E := ⟨rfl, rfl⟩
theorem TableRow.ld_B_H : TableRow.Statement .ld_B_H := ⟨rfl, rfl⟩
theorem TableRow.ld_B_L : TableRow.Statement .ld_B_L := ⟨rfl, rfl⟩
theorem TableRow.ld_B_indHL : TableRow.Statement .ld_B_indHL := ⟨rfl, rfl⟩
theorem TableRow.ld_B_A : TableRow.Statement .ld_B_A := ⟨rfl, rfl⟩
theorem TableRow.ld_C_B : TableRow.Statement .ld_C_B := ⟨rfl, rfl⟩
theorem TableRow.ld_C_C : TableRow.Statement .ld_C_C := ⟨rfl, rfl⟩
theorem TableRow.ld_C_D : TableRow.Statement .ld_C_D := ⟨rfl, rfl⟩
theorem TableRow.ld_C_E : TableRow.Statement .ld_C_E := ⟨rfl, rfl⟩
theorem TableRow.ld_C_H : TableRow.Statement .ld_C_H := ⟨rfl, rfl⟩
theorem TableRow.ld_C_L : TableRow.Statement .ld_C_L := ⟨rfl, rfl⟩
theorem TableRow.ld_C_indHL : TableRow.Statement .ld_C_indHL := ⟨rfl, rfl⟩
theorem TableRow.ld_C_A : TableRow.Statement .ld_C_A := ⟨rfl, rfl⟩
theorem TableRow.ld_D_B : TableRow.Statement .ld_D_B := ⟨rfl, rfl⟩
theorem TableRow.ld_D_C : TableRow.Statement .ld_D_C := ⟨rfl, rfl⟩
theorem TableRow.ld_D_D : TableRow.Statement .ld_D_D := ⟨rfl, rfl⟩
theorem TableRow.ld_D_E : TableRow.Statement .ld_D_E := ⟨rfl, rfl⟩
theorem TableRow.ld_D_H : TableRow.Statement .ld_D_H := ⟨rfl, rfl⟩
theorem TableRow.ld_D_L : TableRow.Statement .ld_D_L := ⟨rfl, rfl⟩
theorem TableRow.ld_D_indHL : TableRow.Statement .ld_D_indHL := ⟨rfl, rfl⟩
theorem TableRow.ld_D_A : TableRow.Statement .ld_D_A := ⟨rfl, rfl⟩
theorem TableRow.ld_E_B : TableRow.Statement .ld_E_B := ⟨rfl, rfl⟩
theorem TableRow.ld_E_C : TableRow.Statement .ld_E_C := ⟨rfl, rfl⟩
theorem TableRow.ld_E_D : TableRow.Statement .ld_E_D := ⟨rfl, rfl⟩
theorem TableRow.ld_E_E : TableRow.Statement .ld_E_E := ⟨rfl, rfl⟩
theorem TableRow.ld_E_H : TableRow.Statement .ld_E_H := ⟨rfl, rfl⟩
theorem TableRow.ld_E_L : TableRow.Statement .ld_E_L := ⟨rfl, rfl⟩
theorem TableRow.ld_E_indHL : TableRow.Statement .ld_E_indHL := ⟨rfl, rfl⟩
theorem TableRow.ld_E_A : TableRow.Statement .ld_E_A := ⟨rfl, rfl⟩
theorem TableRow.ld_H_B : TableRow.Statement .ld_H_B := ⟨rfl, rfl⟩
theorem TableRow.ld_H_C : TableRow.Statement .ld_H_C := ⟨rfl, rfl⟩
theorem TableRow.ld_H_D : TableRow.Statement .ld_H_D := ⟨rfl, rfl⟩
theorem TableRow.ld_H_E : TableRow.Statement .ld_H_E := ⟨rfl, rfl⟩
theorem TableRow.ld_H_H : TableRow.Statement .ld_H_H := ⟨rfl, rfl⟩
theorem TableRow.ld_H_L : TableRow.Statement .ld_H_L := ⟨rfl, rfl⟩
theorem TableRow.ld_H_indHL : TableRow.Statement .ld_H_indHL := ⟨rfl, rfl⟩
theorem TableRow.ld_H_A : TableRow.Statement .ld_H_A := ⟨rfl, rfl⟩
theorem TableRow.ld_L_B : TableRow.Statement .ld_L_B := ⟨rfl, rfl⟩
theorem TableRow.ld_L_C : TableRow.Statement .ld_L_C := ⟨rfl, rfl⟩
theorem TableRow.ld_L_D : TableRow.Statement .ld_L_D := ⟨rfl, rfl⟩
theorem TableRow.ld_L_E : TableRow.Statement .ld_L_E := ⟨rfl, rfl⟩
theorem TableRow.ld_L_H : TableRow.Statement .ld_L_H := ⟨rfl, rfl⟩
theorem TableRow.ld_L_L : TableRow.Statement .ld_L_L := ⟨rfl, rfl⟩
theorem TableRow.ld_L_indHL : TableRow.Statement .ld_L_indHL := ⟨rfl, rfl⟩
theorem TableRow.ld_L_A : TableRow.Statement .ld_L_A := ⟨rfl, rfl⟩
theorem TableRow.ld_indHL_B : TableRow.Statement .ld_indHL_B := ⟨rfl, rfl⟩
theorem TableRow.ld_indHL_C : TableRow.Statement .ld_indHL_C := ⟨rfl, rfl⟩
theorem TableRow.ld_indHL_D : TableRow.Statement .ld_indHL_D := ⟨rfl, rfl⟩
theorem TableRow.ld_indHL_E : TableRow.Statement .ld_indHL_E := ⟨rfl, rfl⟩
theorem TableRow.ld_indHL_H : TableRow.Statement .ld_indHL_H := ⟨rfl, rfl⟩
theorem TableRow.ld_indHL_L : TableRow.Statement .ld_indHL_L := ⟨rfl, rfl⟩
theorem TableRow.halt : TableRow.Statement .halt := ⟨rfl, rfl⟩
theorem TableRow.ld_indHL_A : TableRow.Statement .ld_indHL_A := ⟨rfl, rfl⟩
theorem TableRow.ld_A_B : TableRow.Statement .ld_A_B := ⟨rfl, rfl⟩
theorem TableRow.ld_A_C : TableRow.Statement .ld_A_C := ⟨rfl, rfl⟩
theorem TableRow.ld_A_D : TableRow.Statement .ld_A_D := ⟨rfl, rfl⟩
theorem TableRow.ld_A_E : TableRow.Statement .ld_A_E := ⟨rfl, rfl⟩
theorem TableRow.ld_A_H : TableRow.Statement .ld_A_H := ⟨rfl, rfl⟩
theorem TableRow.ld_A_L : TableRow.Statement .ld_A_L := ⟨rfl, rfl⟩
theorem TableRow.ld_A_indHL : TableRow.Statement .ld_A_indHL := ⟨rfl, rfl⟩
theorem TableRow.ld_A_A : TableRow.Statement .ld_A_A := ⟨rfl, rfl⟩
theorem TableRow.add_A_B : TableRow.Statement .add_A_B := ⟨rfl, rfl⟩
theorem TableRow.add_A_C : TableRow.Statement .add_A_C := ⟨rfl, rfl⟩
theorem TableRow.add_A_D : TableRow.Statement .add_A_D := ⟨rfl, rfl⟩
theorem TableRow.add_A_E : TableRow.Statement .add_A_E := ⟨rfl, rfl⟩
theorem TableRow.add_A_H : TableRow.Statement .add_A_H := ⟨rfl, rfl⟩
theorem TableRow.add_A_L : TableRow.Statement .add_A_L := ⟨rfl, rfl⟩
theorem TableRow.add_A_indHL : TableRow.Statement .add_A_indHL := ⟨rfl, rfl⟩
theorem TableRow.add_A_A : TableRow.Statement .add_A_A := ⟨rfl, rfl⟩
theorem TableRow.adc_A_B : TableRow.Statement .adc_A_B := ⟨rfl, rfl⟩
theorem TableRow.adc_A_C : TableRow.Statement .adc_A_C := ⟨rfl, rfl⟩
theorem TableRow.adc_A_D : TableRow.Statement .adc_A_D := ⟨rfl, rfl⟩
theorem TableRow.adc_A_E : TableRow.Statement .adc_A_E := ⟨rfl, rfl⟩
theorem TableRow.adc_A_H : TableRow.Statement .adc_A_H := ⟨rfl, rfl⟩
theorem TableRow.adc_A_L : TableRow.Statement .adc_A_L := ⟨rfl, rfl⟩
theorem TableRow.adc_A_indHL : TableRow.Statement .adc_A_indHL := ⟨rfl, rfl⟩
theorem TableRow.adc_A_A : TableRow.Statement .adc_A_A := ⟨rfl, rfl⟩
theorem TableRow.sub_A_B : TableRow.Statement .sub_A_B := ⟨rfl, rfl⟩
theorem TableRow.sub_A_C : TableRow.Statement .sub_A_C := ⟨rfl, rfl⟩
theorem TableRow.sub_A_D : TableRow.Statement .sub_A_D := ⟨rfl, rfl⟩
theorem TableRow.sub_A_E : TableRow.Statement .sub_A_E := ⟨rfl, rfl⟩
theorem TableRow.sub_A_H : TableRow.Statement .sub_A_H := ⟨rfl, rfl⟩
theorem TableRow.sub_A_L : TableRow.Statement .sub_A_L := ⟨rfl, rfl⟩
theorem TableRow.sub_A_indHL : TableRow.Statement .sub_A_indHL := ⟨rfl, rfl⟩
theorem TableRow.sub_A_A : TableRow.Statement .sub_A_A := ⟨rfl, rfl⟩
theorem TableRow.sbc_A_B : TableRow.Statement .sbc_A_B := ⟨rfl, rfl⟩
theorem TableRow.sbc_A_C : TableRow.Statement .sbc_A_C := ⟨rfl, rfl⟩
theorem TableRow.sbc_A_D : TableRow.Statement .sbc_A_D := ⟨rfl, rfl⟩
theorem TableRow.sbc_A_E : TableRow.Statement .sbc_A_E := ⟨rfl, rfl⟩
theorem TableRow.sbc_A_H : TableRow.Statement .sbc_A_H := ⟨rfl, rfl⟩
theorem TableRow.sbc_A_L : TableRow.Statement .sbc_A_L := ⟨rfl, rfl⟩
theorem TableRow.sbc_A_indHL : TableRow.Statement .sbc_A_indHL := ⟨rfl, rfl⟩
theorem TableRow.sbc_A_A : TableRow.Statement .sbc_A_A := ⟨rfl, rfl⟩
theorem TableRow.and_A_B : TableRow.Statement .and_A_B := ⟨rfl, rfl⟩
theorem TableRow.and_A_C : TableRow.Statement .and_A_C := ⟨rfl, rfl⟩
theorem TableRow.and_A_D : TableRow.Statement .and_A_D := ⟨rfl, rfl⟩
theorem TableRow.and_A_E : TableRow.Statement .and_A_E := ⟨rfl, rfl⟩
theorem TableRow.and_A_H : TableRow.Statement .and_A_H := ⟨rfl, rfl⟩
theorem TableRow.and_A_L : TableRow.Statement .and_A_L := ⟨rfl, rfl⟩
theorem TableRow.and_A_indHL : TableRow.Statement .and_A_indHL := ⟨rfl, rfl⟩
theorem TableRow.and_A_A : TableRow.Statement .and_A_A := ⟨rfl, rfl⟩
theorem TableRow.xor_A_B : TableRow.Statement .xor_A_B := ⟨rfl, rfl⟩
theorem TableRow.xor_A_C : TableRow.Statement .xor_A_C := ⟨rfl, rfl⟩
theorem TableRow.xor_A_D : TableRow.Statement .xor_A_D := ⟨rfl, rfl⟩
theorem TableRow.xor_A_E : TableRow.Statement .xor_A_E := ⟨rfl, rfl⟩
theorem TableRow.xor_A_H : TableRow.Statement .xor_A_H := ⟨rfl, rfl⟩
theorem TableRow.xor_A_L : TableRow.Statement .xor_A_L := ⟨rfl, rfl⟩
theorem TableRow.xor_A_indHL : TableRow.Statement .xor_A_indHL := ⟨rfl, rfl⟩
theorem TableRow.xor_A_A : TableRow.Statement .xor_A_A := ⟨rfl, rfl⟩
theorem TableRow.or_A_B : TableRow.Statement .or_A_B := ⟨rfl, rfl⟩
theorem TableRow.or_A_C : TableRow.Statement .or_A_C := ⟨rfl, rfl⟩
theorem TableRow.or_A_D : TableRow.Statement .or_A_D := ⟨rfl, rfl⟩
theorem TableRow.or_A_E : TableRow.Statement .or_A_E := ⟨rfl, rfl⟩
theorem TableRow.or_A_H : TableRow.Statement .or_A_H := ⟨rfl, rfl⟩
theorem TableRow.or_A_L : TableRow.Statement .or_A_L := ⟨rfl, rfl⟩
theorem TableRow.or_A_indHL : TableRow.Statement .or_A_indHL := ⟨rfl, rfl⟩
theorem TableRow.or_A_A : TableRow.Statement .or_A_A := ⟨rfl, rfl⟩
theorem TableRow.cp_A_B : TableRow.Statement .cp_A_B := ⟨rfl, rfl⟩
theorem TableRow.cp_A_C : TableRow.Statement .cp_A_C := ⟨rfl, rfl⟩
theorem TableRow.cp_A_D : TableRow.Statement .cp_A_D := ⟨rfl, rfl⟩
theorem TableRow.cp_A_E : TableRow.Statement .cp_A_E := ⟨rfl, rfl⟩
theorem TableRow.cp_A_H : TableRow.Statement .cp_A_H := ⟨rfl, rfl⟩
theorem TableRow.cp_A_L : TableRow.Statement .cp_A_L := ⟨rfl, rfl⟩
theorem TableRow.cp_A_indHL : TableRow.Statement .cp_A_indHL := ⟨rfl, rfl⟩
theorem TableRow.cp_A_A : TableRow.Statement .cp_A_A := ⟨rfl, rfl⟩
theorem TableRow.ret_NZ : TableRow.Statement .ret_NZ := ⟨rfl, rfl⟩
theorem TableRow.pop_BC : TableRow.Statement .pop_BC := ⟨rfl, rfl⟩
theorem TableRow.jp_NZ_a16 (imm16 : Word) : TableRow.Statement (.jp_NZ_a16 imm16) := ⟨rfl, rfl⟩
theorem TableRow.jp_a16 (imm16 : Word) : TableRow.Statement (.jp_a16 imm16) := ⟨rfl, rfl⟩
theorem TableRow.call_NZ_a16 (imm16 : Word) : TableRow.Statement (.call_NZ_a16 imm16) := ⟨rfl, rfl⟩
theorem TableRow.push_BC : TableRow.Statement .push_BC := ⟨rfl, rfl⟩
theorem TableRow.add_A_d8 (imm8 : Byte) : TableRow.Statement (.add_A_d8 imm8) := ⟨rfl, rfl⟩
theorem TableRow.rst_00H : TableRow.Statement .rst_00H := ⟨rfl, rfl⟩
theorem TableRow.ret_Z : TableRow.Statement .ret_Z := ⟨rfl, rfl⟩
theorem TableRow.ret : TableRow.Statement .ret := ⟨rfl, rfl⟩
theorem TableRow.jp_Z_a16 (imm16 : Word) : TableRow.Statement (.jp_Z_a16 imm16) := ⟨rfl, rfl⟩
theorem TableRow.prefix_CB (imm8 : Byte) : TableRow.Statement (.prefix_CB imm8) := ⟨rfl, rfl⟩
theorem TableRow.call_Z_a16 (imm16 : Word) : TableRow.Statement (.call_Z_a16 imm16) := ⟨rfl, rfl⟩
theorem TableRow.call_a16 (imm16 : Word) : TableRow.Statement (.call_a16 imm16) := ⟨rfl, rfl⟩
theorem TableRow.adc_A_d8 (imm8 : Byte) : TableRow.Statement (.adc_A_d8 imm8) := ⟨rfl, rfl⟩
theorem TableRow.rst_08H : TableRow.Statement .rst_08H := ⟨rfl, rfl⟩
theorem TableRow.ret_NC : TableRow.Statement .ret_NC := ⟨rfl, rfl⟩
theorem TableRow.pop_DE : TableRow.Statement .pop_DE := ⟨rfl, rfl⟩
theorem TableRow.jp_NC_a16 (imm16 : Word) : TableRow.Statement (.jp_NC_a16 imm16) := ⟨rfl, rfl⟩
theorem TableRow.illegal_D3 : TableRow.Statement .illegal_D3 := ⟨rfl, rfl⟩
theorem TableRow.call_NC_a16 (imm16 : Word) : TableRow.Statement (.call_NC_a16 imm16) := ⟨rfl, rfl⟩
theorem TableRow.push_DE : TableRow.Statement .push_DE := ⟨rfl, rfl⟩
theorem TableRow.sub_A_d8 (imm8 : Byte) : TableRow.Statement (.sub_A_d8 imm8) := ⟨rfl, rfl⟩
theorem TableRow.rst_10H : TableRow.Statement .rst_10H := ⟨rfl, rfl⟩
theorem TableRow.ret_C : TableRow.Statement .ret_C := ⟨rfl, rfl⟩
theorem TableRow.reti : TableRow.Statement .reti := ⟨rfl, rfl⟩
theorem TableRow.jp_C_a16 (imm16 : Word) : TableRow.Statement (.jp_C_a16 imm16) := ⟨rfl, rfl⟩
theorem TableRow.illegal_DB : TableRow.Statement .illegal_DB := ⟨rfl, rfl⟩
theorem TableRow.call_C_a16 (imm16 : Word) : TableRow.Statement (.call_C_a16 imm16) := ⟨rfl, rfl⟩
theorem TableRow.illegal_DD : TableRow.Statement .illegal_DD := ⟨rfl, rfl⟩
theorem TableRow.sbc_A_d8 (imm8 : Byte) : TableRow.Statement (.sbc_A_d8 imm8) := ⟨rfl, rfl⟩
theorem TableRow.rst_18H : TableRow.Statement .rst_18H := ⟨rfl, rfl⟩
theorem TableRow.ldh_indA8_A (imm8 : Byte) : TableRow.Statement (.ldh_indA8_A imm8) := ⟨rfl, rfl⟩
theorem TableRow.pop_HL : TableRow.Statement .pop_HL := ⟨rfl, rfl⟩
theorem TableRow.ld_indC_A : TableRow.Statement .ld_indC_A := ⟨rfl, rfl⟩
theorem TableRow.illegal_E3 : TableRow.Statement .illegal_E3 := ⟨rfl, rfl⟩
theorem TableRow.illegal_E4 : TableRow.Statement .illegal_E4 := ⟨rfl, rfl⟩
theorem TableRow.push_HL : TableRow.Statement .push_HL := ⟨rfl, rfl⟩
theorem TableRow.and_A_d8 (imm8 : Byte) : TableRow.Statement (.and_A_d8 imm8) := ⟨rfl, rfl⟩
theorem TableRow.rst_20H : TableRow.Statement .rst_20H := ⟨rfl, rfl⟩
theorem TableRow.add_SP_r8 (imm8 : Byte) : TableRow.Statement (.add_SP_r8 imm8) := ⟨rfl, rfl⟩
theorem TableRow.jp_HL : TableRow.Statement .jp_HL := ⟨rfl, rfl⟩
theorem TableRow.ld_indA16_A (imm16 : Word) : TableRow.Statement (.ld_indA16_A imm16) := ⟨rfl, rfl⟩
theorem TableRow.illegal_EB : TableRow.Statement .illegal_EB := ⟨rfl, rfl⟩
theorem TableRow.illegal_EC : TableRow.Statement .illegal_EC := ⟨rfl, rfl⟩
theorem TableRow.illegal_ED : TableRow.Statement .illegal_ED := ⟨rfl, rfl⟩
theorem TableRow.xor_A_d8 (imm8 : Byte) : TableRow.Statement (.xor_A_d8 imm8) := ⟨rfl, rfl⟩
theorem TableRow.rst_28H : TableRow.Statement .rst_28H := ⟨rfl, rfl⟩
theorem TableRow.ldh_A_indA8 (imm8 : Byte) : TableRow.Statement (.ldh_A_indA8 imm8) := ⟨rfl, rfl⟩
theorem TableRow.pop_AF : TableRow.Statement .pop_AF := ⟨rfl, rfl⟩
theorem TableRow.ld_A_indC : TableRow.Statement .ld_A_indC := ⟨rfl, rfl⟩
theorem TableRow.di : TableRow.Statement .di := ⟨rfl, rfl⟩
theorem TableRow.illegal_F4 : TableRow.Statement .illegal_F4 := ⟨rfl, rfl⟩
theorem TableRow.push_AF : TableRow.Statement .push_AF := ⟨rfl, rfl⟩
theorem TableRow.or_A_d8 (imm8 : Byte) : TableRow.Statement (.or_A_d8 imm8) := ⟨rfl, rfl⟩
theorem TableRow.rst_30H : TableRow.Statement .rst_30H := ⟨rfl, rfl⟩
theorem TableRow.ld_HL_SPr8 (imm8 : Byte) : TableRow.Statement (.ld_HL_SPr8 imm8) := ⟨rfl, rfl⟩
theorem TableRow.ld_SP_HL : TableRow.Statement .ld_SP_HL := ⟨rfl, rfl⟩
theorem TableRow.ld_A_indA16 (imm16 : Word) : TableRow.Statement (.ld_A_indA16 imm16) := ⟨rfl, rfl⟩
theorem TableRow.ei : TableRow.Statement .ei := ⟨rfl, rfl⟩
theorem TableRow.illegal_FC : TableRow.Statement .illegal_FC := ⟨rfl, rfl⟩
theorem TableRow.illegal_FD : TableRow.Statement .illegal_FD := ⟨rfl, rfl⟩
theorem TableRow.cp_A_d8 (imm8 : Byte) : TableRow.Statement (.cp_A_d8 imm8) := ⟨rfl, rfl⟩
theorem TableRow.rst_38H : TableRow.Statement .rst_38H := ⟨rfl, rfl⟩

end Sys2Proof.Laws
end

