-- ==== Sys2Proof/Tests/Slice0.lean ====
section
/-!
SUPPORT. The tests: ill-formed entries are refused, every opcode decodes as 30_encoding.md section 6 says, small
vectors of 95_test_vectors.md (expected values are the spec's), and a witness for the hypotheses of every obligation.
-/
open Sys2Proof Sys2Proof.Machine
namespace Sys2Proof.Tests
set_option Elab.async false

/-! ### WellFormed: one ill-formed entry for each check (40_step.md R144, R147, 30_encoding.md R101) -/

theorem test_wellFormed_accepts : Entry.wellFormed ⟨.ld, none, [.reg8 .B, .imm8], .OP_D8⟩ = true := by decide +kernel
theorem test_wellFormed_arity : Entry.wellFormed ⟨.ld, none, [.reg8 .B], .OP⟩ = false := by decide +kernel
theorem test_wellFormed_width8 : Entry.wellFormed ⟨.ld, none, [.reg8 .B, .reg16 .HL], .OP⟩ = false := by decide +kernel
theorem test_wellFormed_width16 : Entry.wellFormed ⟨.inc16, none, [.reg8 .B], .OP⟩ = false := by decide +kernel
theorem test_wellFormed_destination : Entry.wellFormed ⟨.ld, none, [.imm8, .reg8 .B], .OP_D8⟩ = false := by decide +kernel
theorem test_wellFormed_destination_cp : Entry.wellFormed ⟨.cp, none, [.imm8, .reg8 .B], .OP_D8⟩ = false := by decide +kernel
theorem test_wellFormed_format : Entry.wellFormed ⟨.ld, none, [.reg8 .B, .imm8], .OP⟩ = false := by decide +kernel
theorem test_wellFormed_cond : Entry.wellFormed ⟨.jp, none, [.imm16], .OP_D16⟩ = false := by decide +kernel
theorem test_wellFormed_cond_elsewhere : Entry.wellFormed ⟨.nop, some .Z, [], .OP⟩ = false := by decide +kernel

/-! ### Decoding: one word bit by bit for each family (30_encoding.md R110 to R113, section 6) -/

/-- The bytes decode to `i` and nothing is left. -/
def decodes (bs : List Byte) (i : Instr) : Bool :=
  match decode bs with
  | .ok (j, rest) => j == i && rest.isEmpty
  | .error _ => false

theorem test_bits_nop : decodes [0b00000000] .nop = true := by decide +kernel
theorem test_bits_ld_r_r : decodes [0b01000001] .ld_B_C = true := by decide +kernel
theorem test_bits_ld_memory : decodes [0b00100010] .ld_indHLinc_A = true := by decide +kernel
theorem test_bits_ld_r_d8 : decodes [0b00111110, 0b01000010] (.ld_A_d8 0x42) = true := by decide +kernel
theorem test_bits_ldh : decodes [0b11100000, 0b01000010] (.ldh_indA8_A 0x42) = true := by decide +kernel
theorem test_bits_ld16 : decodes [0b00000001, 0b00100011, 0b11000001] (.ld_BC_d16 0xC123) = true := by decide +kernel
theorem test_bits_jp : decodes [0b11000011, 0b00110100, 0b00010010] (.jp_a16 0x1234) = true := by decide +kernel
theorem test_bits_cpl : decodes [0b00101111] .cpl = true := by decide +kernel
theorem test_bits_ccf : decodes [0b00111111] .ccf = true := by decide +kernel
theorem test_bits_inc : decodes [0b00110100] .inc_indHL = true := by decide +kernel
theorem test_bits_dec16 : decodes [0b00011011] .dec_DE = true := by decide +kernel
theorem test_bits_xor : decodes [0b10101111] .xor_A_A = true := by decide +kernel
theorem test_bits_alu : decodes [0b10111110] .cp_A_indHL = true := by decide +kernel
theorem test_bits_unimplemented : decodes [0b11001011, 0b01111100] (.prefix_CB 0x7C) = true := by decide +kernel
theorem test_bits_illegal : decodes [0b11010011] .illegal_D3 = true := by decide +kernel
theorem test_bits_short : decode [0xC3, 0x34] = .error (.missingOperand 0xC3) ∧ decode [] = .error .noBytes := ⟨rfl, rfl⟩

/-! ### Decoding: every constructor, row by row of the opcode map; imm8 = 0x42, imm16 = 0xC123 (95_test_vectors.md) -/

theorem test_decode_row_0 : (
    decodes [0x00] .nop && decodes [0x01, 0x23, 0xC1] (.ld_BC_d16 0xC123) && decodes [0x02] .ld_indBC_A &&
    decodes [0x03] .inc_BC && decodes [0x04] .inc_B && decodes [0x05] .dec_B &&
    decodes [0x06, 0x42] (.ld_B_d8 0x42) && decodes [0x07] .rlca &&
    decodes [0x08, 0x23, 0xC1] (.ld_indA16_SP 0xC123) && decodes [0x09] .add_HL_BC && decodes [0x0A] .ld_A_indBC &&
    decodes [0x0B] .dec_BC && decodes [0x0C] .inc_C && decodes [0x0D] .dec_C &&
    decodes [0x0E, 0x42] (.ld_C_d8 0x42) && decodes [0x0F] .rrca) = true := by decide +kernel

theorem test_decode_row_1 : (
    decodes [0x10, 0x42] (.stop 0x42) && decodes [0x11, 0x23, 0xC1] (.ld_DE_d16 0xC123) &&
    decodes [0x12] .ld_indDE_A && decodes [0x13] .inc_DE && decodes [0x14] .inc_D && decodes [0x15] .dec_D &&
    decodes [0x16, 0x42] (.ld_D_d8 0x42) && decodes [0x17] .rla && decodes [0x18, 0x42] (.jr_r8 0x42) &&
    decodes [0x19] .add_HL_DE && decodes [0x1A] .ld_A_indDE && decodes [0x1B] .dec_DE && decodes [0x1C] .inc_E &&
    decodes [0x1D] .dec_E && decodes [0x1E, 0x42] (.ld_E_d8 0x42) && decodes [0x1F] .rra) = true := by decide +kernel

theorem test_decode_row_2 : (
    decodes [0x20, 0x42] (.jr_NZ_r8 0x42) && decodes [0x21, 0x23, 0xC1] (.ld_HL_d16 0xC123) &&
    decodes [0x22] .ld_indHLinc_A && decodes [0x23] .inc_HL && decodes [0x24] .inc_H && decodes [0x25] .dec_H &&
    decodes [0x26, 0x42] (.ld_H_d8 0x42) && decodes [0x27] .daa && decodes [0x28, 0x42] (.jr_Z_r8 0x42) &&
    decodes [0x29] .add_HL_HL && decodes [0x2A] .ld_A_indHLinc && decodes [0x2B] .dec_HL && decodes [0x2C] .inc_L &&
    decodes [0x2D] .dec_L && decodes [0x2E, 0x42] (.ld_L_d8 0x42) && decodes [0x2F] .cpl) = true := by decide +kernel

theorem test_decode_row_3 : (
    decodes [0x30, 0x42] (.jr_NC_r8 0x42) && decodes [0x31, 0x23, 0xC1] (.ld_SP_d16 0xC123) &&
    decodes [0x32] .ld_indHLdec_A && decodes [0x33] .inc_SP && decodes [0x34] .inc_indHL &&
    decodes [0x35] .dec_indHL && decodes [0x36, 0x42] (.ld_indHL_d8 0x42) && decodes [0x37] .scf &&
    decodes [0x38, 0x42] (.jr_C_r8 0x42) && decodes [0x39] .add_HL_SP && decodes [0x3A] .ld_A_indHLdec &&
    decodes [0x3B] .dec_SP && decodes [0x3C] .inc_A && decodes [0x3D] .dec_A &&
    decodes [0x3E, 0x42] (.ld_A_d8 0x42) && decodes [0x3F] .ccf) = true := by decide +kernel

theorem test_decode_row_4 : (
    decodes [0x40] .ld_B_B && decodes [0x41] .ld_B_C && decodes [0x42] .ld_B_D && decodes [0x43] .ld_B_E &&
    decodes [0x44] .ld_B_H && decodes [0x45] .ld_B_L && decodes [0x46] .ld_B_indHL && decodes [0x47] .ld_B_A &&
    decodes [0x48] .ld_C_B && decodes [0x49] .ld_C_C && decodes [0x4A] .ld_C_D && decodes [0x4B] .ld_C_E &&
    decodes [0x4C] .ld_C_H && decodes [0x4D] .ld_C_L && decodes [0x4E] .ld_C_indHL && decodes [0x4F] .ld_C_A) = true := by decide +kernel

theorem test_decode_row_5 : (
    decodes [0x50] .ld_D_B && decodes [0x51] .ld_D_C && decodes [0x52] .ld_D_D && decodes [0x53] .ld_D_E &&
    decodes [0x54] .ld_D_H && decodes [0x55] .ld_D_L && decodes [0x56] .ld_D_indHL && decodes [0x57] .ld_D_A &&
    decodes [0x58] .ld_E_B && decodes [0x59] .ld_E_C && decodes [0x5A] .ld_E_D && decodes [0x5B] .ld_E_E &&
    decodes [0x5C] .ld_E_H && decodes [0x5D] .ld_E_L && decodes [0x5E] .ld_E_indHL && decodes [0x5F] .ld_E_A) = true := by decide +kernel

theorem test_decode_row_6 : (
    decodes [0x60] .ld_H_B && decodes [0x61] .ld_H_C && decodes [0x62] .ld_H_D && decodes [0x63] .ld_H_E &&
    decodes [0x64] .ld_H_H && decodes [0x65] .ld_H_L && decodes [0x66] .ld_H_indHL && decodes [0x67] .ld_H_A &&
    decodes [0x68] .ld_L_B && decodes [0x69] .ld_L_C && decodes [0x6A] .ld_L_D && decodes [0x6B] .ld_L_E &&
    decodes [0x6C] .ld_L_H && decodes [0x6D] .ld_L_L && decodes [0x6E] .ld_L_indHL && decodes [0x6F] .ld_L_A) = true := by decide +kernel

theorem test_decode_row_7 : (
    decodes [0x70] .ld_indHL_B && decodes [0x71] .ld_indHL_C && decodes [0x72] .ld_indHL_D &&
    decodes [0x73] .ld_indHL_E && decodes [0x74] .ld_indHL_H && decodes [0x75] .ld_indHL_L && decodes [0x76] .halt &&
    decodes [0x77] .ld_indHL_A && decodes [0x78] .ld_A_B && decodes [0x79] .ld_A_C && decodes [0x7A] .ld_A_D &&
    decodes [0x7B] .ld_A_E && decodes [0x7C] .ld_A_H && decodes [0x7D] .ld_A_L && decodes [0x7E] .ld_A_indHL &&
    decodes [0x7F] .ld_A_A) = true := by decide +kernel

theorem test_decode_row_8 : (
    decodes [0x80] .add_A_B && decodes [0x81] .add_A_C && decodes [0x82] .add_A_D && decodes [0x83] .add_A_E &&
    decodes [0x84] .add_A_H && decodes [0x85] .add_A_L && decodes [0x86] .add_A_indHL && decodes [0x87] .add_A_A &&
    decodes [0x88] .adc_A_B && decodes [0x89] .adc_A_C && decodes [0x8A] .adc_A_D && decodes [0x8B] .adc_A_E &&
    decodes [0x8C] .adc_A_H && decodes [0x8D] .adc_A_L && decodes [0x8E] .adc_A_indHL && decodes [0x8F] .adc_A_A) = true := by decide +kernel

theorem test_decode_row_9 : (
    decodes [0x90] .sub_A_B && decodes [0x91] .sub_A_C && decodes [0x92] .sub_A_D && decodes [0x93] .sub_A_E &&
    decodes [0x94] .sub_A_H && decodes [0x95] .sub_A_L && decodes [0x96] .sub_A_indHL && decodes [0x97] .sub_A_A &&
    decodes [0x98] .sbc_A_B && decodes [0x99] .sbc_A_C && decodes [0x9A] .sbc_A_D && decodes [0x9B] .sbc_A_E &&
    decodes [0x9C] .sbc_A_H && decodes [0x9D] .sbc_A_L && decodes [0x9E] .sbc_A_indHL && decodes [0x9F] .sbc_A_A) = true := by decide +kernel

theorem test_decode_row_A : (
    decodes [0xA0] .and_A_B && decodes [0xA1] .and_A_C && decodes [0xA2] .and_A_D && decodes [0xA3] .and_A_E &&
    decodes [0xA4] .and_A_H && decodes [0xA5] .and_A_L && decodes [0xA6] .and_A_indHL && decodes [0xA7] .and_A_A &&
    decodes [0xA8] .xor_A_B && decodes [0xA9] .xor_A_C && decodes [0xAA] .xor_A_D && decodes [0xAB] .xor_A_E &&
    decodes [0xAC] .xor_A_H && decodes [0xAD] .xor_A_L && decodes [0xAE] .xor_A_indHL && decodes [0xAF] .xor_A_A) = true := by decide +kernel

theorem test_decode_row_B : (
    decodes [0xB0] .or_A_B && decodes [0xB1] .or_A_C && decodes [0xB2] .or_A_D && decodes [0xB3] .or_A_E &&
    decodes [0xB4] .or_A_H && decodes [0xB5] .or_A_L && decodes [0xB6] .or_A_indHL && decodes [0xB7] .or_A_A &&
    decodes [0xB8] .cp_A_B && decodes [0xB9] .cp_A_C && decodes [0xBA] .cp_A_D && decodes [0xBB] .cp_A_E &&
    decodes [0xBC] .cp_A_H && decodes [0xBD] .cp_A_L && decodes [0xBE] .cp_A_indHL && decodes [0xBF] .cp_A_A) = true := by decide +kernel

theorem test_decode_row_C : (
    decodes [0xC0] .ret_NZ && decodes [0xC1] .pop_BC && decodes [0xC2, 0x23, 0xC1] (.jp_NZ_a16 0xC123) &&
    decodes [0xC3, 0x23, 0xC1] (.jp_a16 0xC123) && decodes [0xC4, 0x23, 0xC1] (.call_NZ_a16 0xC123) &&
    decodes [0xC5] .push_BC && decodes [0xC6, 0x42] (.add_A_d8 0x42) && decodes [0xC7] .rst_00H &&
    decodes [0xC8] .ret_Z && decodes [0xC9] .ret && decodes [0xCA, 0x23, 0xC1] (.jp_Z_a16 0xC123) &&
    decodes [0xCB, 0x42] (.prefix_CB 0x42) && decodes [0xCC, 0x23, 0xC1] (.call_Z_a16 0xC123) &&
    decodes [0xCD, 0x23, 0xC1] (.call_a16 0xC123) && decodes [0xCE, 0x42] (.adc_A_d8 0x42) && decodes [0xCF] .rst_08H) = true := by decide +kernel

theorem test_decode_row_D : (
    decodes [0xD0] .ret_NC && decodes [0xD1] .pop_DE && decodes [0xD2, 0x23, 0xC1] (.jp_NC_a16 0xC123) &&
    decodes [0xD3] .illegal_D3 && decodes [0xD4, 0x23, 0xC1] (.call_NC_a16 0xC123) && decodes [0xD5] .push_DE &&
    decodes [0xD6, 0x42] (.sub_A_d8 0x42) && decodes [0xD7] .rst_10H && decodes [0xD8] .ret_C &&
    decodes [0xD9] .reti && decodes [0xDA, 0x23, 0xC1] (.jp_C_a16 0xC123) && decodes [0xDB] .illegal_DB &&
    decodes [0xDC, 0x23, 0xC1] (.call_C_a16 0xC123) && decodes [0xDD] .illegal_DD &&
    decodes [0xDE, 0x42] (.sbc_A_d8 0x42) && decodes [0xDF] .rst_18H) = true := by decide +kernel

theorem test_decode_row_E : (
    decodes [0xE0, 0x42] (.ldh_indA8_A 0x42) && decodes [0xE1] .pop_HL && decodes [0xE2] .ld_indC_A &&
    decodes [0xE3] .illegal_E3 && decodes [0xE4] .illegal_E4 && decodes [0xE5] .push_HL &&
    decodes [0xE6, 0x42] (.and_A_d8 0x42) && decodes [0xE7] .rst_20H && decodes [0xE8, 0x42] (.add_SP_r8 0x42) &&
    decodes [0xE9] .jp_HL && decodes [0xEA, 0x23, 0xC1] (.ld_indA16_A 0xC123) && decodes [0xEB] .illegal_EB &&
    decodes [0xEC] .illegal_EC && decodes [0xED] .illegal_ED && decodes [0xEE, 0x42] (.xor_A_d8 0x42) &&
    decodes [0xEF] .rst_28H) = true := by decide +kernel

theorem test_decode_row_F : (
    decodes [0xF0, 0x42] (.ldh_A_indA8 0x42) && decodes [0xF1] .pop_AF && decodes [0xF2] .ld_A_indC &&
    decodes [0xF3] .di && decodes [0xF4] .illegal_F4 && decodes [0xF5] .push_AF &&
    decodes [0xF6, 0x42] (.or_A_d8 0x42) && decodes [0xF7] .rst_30H && decodes [0xF8, 0x42] (.ld_HL_SPr8 0x42) &&
    decodes [0xF9] .ld_SP_HL && decodes [0xFA, 0x23, 0xC1] (.ld_A_indA16 0xC123) && decodes [0xFB] .ei &&
    decodes [0xFC] .illegal_FC && decodes [0xFD] .illegal_FD && decodes [0xFE, 0x42] (.cp_A_d8 0x42) &&
    decodes [0xFF] .rst_38H) = true := by decide +kernel

/-! ### One step, from the spec's start state `E0` and from reset (95_test_vectors.md sections 1 to 3) -/

/-- The next state, if there is one. -/
def nextOf : Host.Outcome State Fault Refusal → Option State
  | .next t => some t
  | .fault _ => none
  | .refused _ => none

/-- The fault, if there is one. -/
def faultOf : Host.Outcome State Fault Refusal → Option Fault
  | .fault r => some r
  | .next _ => none
  | .refused _ => none

/-- `E0` of 95_test_vectors.md section 2. -/
def e0 : State :=
  { State.reset with
    a := 0x5A, b := 0x12, c := 0x34, d := 0xC0, e := 0x56, h := 0xC1, l := 0x00,
    mem := (((((Memory.writeByte [] 0x0034 0xAA).writeByte 0x0042 0xBB).writeByte 0x1234 0x77).writeByte 0xC056
      0x88).writeByte 0xC100 0x99).writeByte 0xC123 0xDD }

/-- One step with these bytes at `pc`. -/
def after (s : State) (bs : List Byte) : Option State := nextOf (step { s with mem := writeBytes s.mem s.pc bs })

/-- The code, opcode and address a step traps with. -/
def trapOf (s : State) (bs : List Byte) : Option (Nat × Byte × Word) :=
  match faultOf (step { s with mem := writeBytes s.mem s.pc bs }) with
  | some (.illegalOpcode o p) => some (1, o, p)
  | some (.unimplementedAction r) => some (2, r.opcode, r.pc)
  | some (.contractViolation r) => some (3, r.opcode, r.pc)
  | none => none

-- section 1: S7 to S10
theorem test_S7 : (State.reset.pair .AF, State.reset.pair .HL) = (0x01B0, 0x014D) := by decide +kernel
theorem test_S8 : (after State.reset [0x00]).map (fun t => (t.pc, t.f)) = some (0x0101, 0xB0) := by decide +kernel
theorem test_S9 : (after State.reset [0xAF]).map (fun t => (t.a, t.f)) = some (0x00, 0x80) := by decide +kernel
theorem test_S10 : (after State.reset [0xC3, 0x34, 0x12]).map (·.pc) = some 0x1234 := by decide +kernel
-- 3.1: the MMU
theorem test_M3 : (Memory.writeByte [] 0xFDFF 0x2A).readByte 0xDDFF = 0x2A := by decide +kernel
theorem test_M4 : (Memory.writeByte [] 0xFEA0 0x99, Memory.writeByte [] 0xFEFF 0x98) = ([], []) := by decide +kernel
theorem test_M5 : (Memory.writeWord [] 0xFFFF 0xBEEF).readByte 0x0000 = 0xBE := by decide +kernel
theorem test_M6 : (Memory.writeWord [] 0xFE9F 0xBEEF).readWord 0xFE9F = 0x00EF := by decide +kernel
theorem test_M7 : (Memory.writeWord [] 0xDFFF 0x1234).readByte 0xC000 = 0x12 := by decide +kernel
-- 3.2: the register file
theorem test_RF3 : (State.reset.setPair .AF 0xFFFF).pair .AF = 0xFFF0 := by decide +kernel
theorem test_RF4 : setFlag (flipFlag (setFlag 0x00 .H true) .C) .H false = 0x10 := by decide +kernel
-- 3.3: decode and pc, wrapping
theorem test_V2 : (after { State.reset with pc := 0xFFFF } [0x06, 0x42]).map (fun t => (t.b, t.pc)) =
    some (0x42, 0x0001) := by decide +kernel
theorem test_V3 : (after { State.reset with pc := 0xFFFE } [0xC3, 0x10, 0x80]).map (·.pc) = some 0x8010 := by decide +kernel
theorem test_V4 : (after { State.reset with pc := 0xFEA0 } []).map (·.pc) = some 0xFEA1 := by decide +kernel
theorem test_V5 : (after { State.reset with pc := 0xE010, mem := Memory.writeByte [] 0xC010 0xAF } []).map
    (fun t => (t.a, t.f)) = some (0x00, 0x80) := by decide +kernel
-- 3.5: LD
theorem test_V7 : (after e0 [0x41]).map (fun t => (t.b, t.pc)) = some (0x34, 0x0101) := by decide +kernel
theorem test_V9 : (after e0 [0x66]).map (fun t => (t.h, t.l)) = some (0x99, 0x00) := by decide +kernel
theorem test_V11 : (after e0 [0x74]).map (·.readByte 0xC100) = some 0xC1 := by decide +kernel
theorem test_V12 : (after (e0.setPair .HL 0xFEA5) [0x77]).map (fun t => (t.readByte 0xFEA5, t.pc)) =
    some (0x00, 0x0101) := by decide +kernel
theorem test_V14 : (after (e0.setPair .HL 0xE100) [0x46]).map (·.b) = some 0x99 := by decide +kernel
theorem test_V16 : (after e0 [0x36, 0x42]).map (fun t => (t.readByte 0xC100, t.pc)) = some (0x42, 0x0102) := by decide +kernel
theorem test_V18 : (after e0 [0x02]).map (·.readByte 0x1234) = some 0x5A := by decide +kernel
theorem test_V19 : (after e0 [0x1A]).map (·.a) = some 0x88 := by decide +kernel
theorem test_V21 : (after (e0.setPair .HL 0xFFFF) [0x22]).map (fun t => (t.readByte 0xFFFF, t.pair .HL)) =
    some (0x5A, 0x0000) := by decide +kernel
theorem test_V23 : (after e0 [0x32]).map (fun t => (t.readByte 0xC100, t.pair .HL)) = some (0x5A, 0xC0FF) := by decide +kernel
theorem test_V24 : (after (e0.setPair .HL 0x0000) [0x3A]).map (fun t => (t.a, t.pair .HL)) =
    some (0x00, 0xFFFF) := by decide +kernel
theorem test_V25 : (after e0 [0xE2]).map (·.readByte 0x0034) = some 0x5A := by decide +kernel
theorem test_V26 : (after e0 [0xF2]).map (·.a) = some 0xAA := by decide +kernel
theorem test_V27 : (after e0 [0xE0, 0x42]).map (·.readByte 0x0042) = some 0x5A := by decide +kernel
theorem test_V28 : (after { e0 with cfg := { defaultConfig with highBase := 0xFF00 } } [0xE0, 0x42]).map
    (·.readByte 0xFF42) = some 0x5A := by decide +kernel
theorem test_V29 : (after e0 [0xF0, 0x42]).map (·.a) = some 0xBB := by decide +kernel
theorem test_V33 : (after e0 [0xFA, 0x23, 0xC1]).map (fun t => (t.a, t.pc)) = some (0xDD, 0x0103) := by decide +kernel
theorem test_V34 : (after e0 [0xEA, 0x23, 0xE1]).map (·.readByte 0xC123) = some 0x5A := by decide +kernel
-- 3.6: LD16
theorem test_V36 : (after e0 [0x01, 0x23, 0xC1]).map (fun t => (t.b, t.c)) = some (0xC1, 0x23) := by decide +kernel
theorem test_V38 : (after e0 [0x21, 0x00, 0x00]).map (fun t => (t.pair .HL, t.pc)) = some (0x0000, 0x0103) := by decide +kernel
-- 3.7: JP
theorem test_V47 : (after { e0 with f := 0x80 } [0xC2, 0x23, 0xC1]).map (·.pc) = some 0x0103 := by decide +kernel
theorem test_V48 : (after { e0 with f := 0x80 } [0xCA, 0x23, 0xC1]).map (·.pc) = some 0xC123 := by decide +kernel
theorem test_V53 : (after { e0 with f := 0x10 } [0xD2, 0x23, 0xC1]).map (·.pc) = some 0x0103 := by decide +kernel
theorem test_V54 : (after { e0 with f := 0x10 } [0xDA, 0x23, 0xC1]).map (·.pc) = some 0xC123 := by decide +kernel
theorem test_V56 : (after e0 [0xE9]).map (·.pc) = some 0xC100 := by decide +kernel
-- 3.8: CPL, CCF
theorem test_V58 : (after { e0 with f := 0x00 } [0x2F]).map (fun t => (t.a, t.f)) = some (0xA5, 0x00) := by decide +kernel
theorem test_V59 : (after { e0 with f := 0x00, cfg := { defaultConfig with cplSetsNH := true } } [0x2F]).map
    (fun t => (t.a, t.f)) = some (0xA5, 0x60) := by decide +kernel
theorem test_V68 : (after { e0 with f := 0x10 } [0x3F]).map (·.f) = some 0x60 := by decide +kernel
theorem test_V71 : (after { e0 with f := 0xF0, cfg := { defaultConfig with ccfNhValue := false } } [0x3F]).map
    (·.f) = some 0x80 := by decide +kernel
-- 3.9: INC, DEC, INC16, DEC16
theorem test_V75 : (after { e0 with b := 0xFF, f := 0xF0 } [0x04]).map (fun t => (t.b, t.f)) =
    some (0x00, 0xB0) := by decide +kernel
theorem test_V76 : (after { e0 with a := 0x0F, f := 0x00 } [0x3C]).map (fun t => (t.a, t.f)) =
    some (0x10, 0x00) := by decide +kernel
theorem test_V78 : (after { e0 with l := 0x01, f := 0x10 } [0x2D]).map (fun t => (t.l, t.f)) =
    some (0x00, 0xD0) := by decide +kernel
theorem test_V79 : (after e0 [0x34]).map (fun t => (t.readByte 0xC100, t.f)) = some (0x9A, 0x10) := by decide +kernel
theorem test_V84 : (after (e0.setPair .HL 0xFEB0) [0x35]).map (fun t => (t.readByte 0xFEB0, t.f)) =
    some (0x00, 0x70) := by decide +kernel
theorem test_V86 : (after (e0.setPair .BC 0xFFFF) [0x03]).map (fun t => (t.pair .BC, t.f)) =
    some (0x0000, 0xB0) := by decide +kernel
theorem test_V90 : (after (e0.setPair .DE 0x0100) [0x1B]).map (·.pair .DE) = some 0x00FF := by decide +kernel
-- 3.10: XOR
theorem test_V92 : (after e0 [0xA8]).map (fun t => (t.a, t.f)) = some (0x48, 0x00) := by decide +kernel
theorem test_V96 : (after e0 [0xAE]).map (fun t => (t.a, t.f)) = some (0xC3, 0x00) := by decide +kernel
theorem test_V99 : (after e0 [0xEE, 0x5A]).map (fun t => (t.a, t.f)) = some (0x00, 0x80) := by decide +kernel
-- 3.11: traps
theorem test_V101 : trapOf e0 [0x80] = some (2, 0x80, 0x0100) := by decide +kernel
theorem test_V108 : trapOf e0 [0x31, 0xFE, 0xFF] = some (2, 0x31, 0x0100) := by decide +kernel
theorem test_V109 : trapOf e0 [0xCB, 0x7C] = some (2, 0xCB, 0x0100) := by decide +kernel
theorem test_V116 : trapOf e0 [0xD3] = some (1, 0xD3, 0x0100) := by decide +kernel

/-! ### The words of spec/opcode_table.json, decoded and fetched -/

theorem test_tableWord_jp : decodeTableWord 24 0x1234C3 = some (.jp_a16 0x1234) := by decide +kernel
theorem test_tableWord_ldh : decodeTableWord 16 0x42E0 = some (.ldh_indA8_A 0x42) := by decide +kernel
theorem test_fetchWord_jp : (nextOf (step (State.reset.withFetchWord 24 0x1234C3))).map (·.pc) = some 0x1234 := by
  decide +kernel
theorem test_fetchWord_unmapped_pc :
    (nextOf (step ({ State.reset with pc := 0xFE9F }.withFetchWord 16 0x423E))).map (·.a) = some 0x42 := by decide +kernel

/-! ### Witnesses: concrete states and operands that meet the hypotheses of each obligation that has some -/

/-- A next state exists and is the one named. -/
theorem next_of_isSome {o : Host.Outcome State Fault Refusal} (h : (nextOf o).isSome = true) : ∃ t, o = .next t := by
  cases o with
  | next t => exact ⟨t, rfl⟩
  | fault _ => cases h
  | refused _ => cases h

/-- A state with a `JP` whose operand bytes wrap past 0xFFFF. -/
def atTop : State := { State.reset with pc := 0xFFFE, mem := writeBytes [] 0xFFFE [0xC3, 0x10, 0x80] }

theorem witness_StepRunsDecoded : ∀ k (hk : k < (encode (.jp_a16 0x8010)).length),
    atTop.readByte (atTop.pc + BitVec.ofNat 16 k) = (encode (.jp_a16 0x8010))[k] := by decide +kernel
theorem witness_EncodeOfDecode : decode [0xC3, 0x34, 0x12, 0x00] = .ok (.jp_a16 0x1234, [0x00]) := rfl
theorem witness_step_next : State.reset.Inv ∧ ∃ t, step State.reset = .next t :=
  ⟨⟨by decide +kernel, by decide +kernel⟩, next_of_isSome (by decide +kernel)⟩
theorem witness_FlagFrame_no_flags : (∃ t, exec .ld_B_C e0 = .next t) ∧ Instr.ld_B_C.entry.action ∈
    ([.nop, .ld, .ld16, .jp, .inc16, .dec16] : List Action) := ⟨next_of_isSome (by decide +kernel), by decide +kernel⟩
theorem witness_FlagFrame_cpl : (∃ t, exec .cpl e0 = .next t) ∧ Instr.cpl.entry.action = .cpl ∧
    e0.cfg.cplSetsNH = false := ⟨next_of_isSome (by decide +kernel), by decide +kernel, by decide +kernel⟩
theorem witness_FlagFrame_inc_dec : (∃ t, exec .dec_indHL e0 = .next t) ∧ Instr.dec_indHL.entry.action ∈
    ([.inc, .dec] : List Action) := ⟨next_of_isSome (by decide +kernel), by decide +kernel⟩
theorem witness_FlagFrame_ccf : (∃ t, exec .ccf e0 = .next t) ∧ Instr.ccf.entry.action = .ccf :=
  ⟨next_of_isSome (by decide +kernel), by decide +kernel⟩
theorem witness_MemoryFrame_store : (∃ t, exec .ld_indHLdec_A e0 = .next t) ∧
    storeAddress .ld_indHLdec_A e0 = some 0xC100 ∧ keyOf 0xC101 ≠ keyOf 0xC100 :=
  ⟨next_of_isSome (by decide +kernel), by decide +kernel, by decide +kernel⟩
theorem witness_MemoryFrame_no_store : (∃ t, exec .xor_A_indHL e0 = .next t) ∧ storeAddress .xor_A_indHL e0 = none :=
  ⟨next_of_isSome (by decide +kernel), by decide +kernel⟩
theorem witness_StoreAddresses : storeAddress (.ld_indA16_A 0xC123) e0 ≠ none := by decide +kernel
theorem witness_RegisterFrame : (∃ t, exec .ld_A_indHLinc e0 = .next t) ∧ Reg8.B ∉ writtenRegs .ld_A_indHLinc :=
  ⟨next_of_isSome (by decide +kernel), by decide +kernel⟩
theorem witness_wf : e0.mem.wf = true := by decide +kernel
theorem witness_MmuLaws_mapped : ¬ (0xFEA0 ≤ (0xFE9F : Word).toNat ∧ (0xFE9F : Word).toNat ≤ 0xFEFF) ∧
    ¬ (0xFEA0 ≤ (0xFF00 : Word).toNat ∧ (0xFF00 : Word).toNat ≤ 0xFEFF) := by decide +kernel
theorem witness_MmuLaws_unmapped : (0xFEA0 ≤ (0xFEA0 : Word).toNat ∧ (0xFEA0 : Word).toNat ≤ 0xFEFF) ∧
    (0xFEA0 ≤ (0xFEFF : Word).toNat ∧ (0xFEFF : Word).toNat ≤ 0xFEFF) := by decide +kernel
theorem witness_MmuLaws_mirror : (0xC000 ≤ (0xC000 : Word).toNat ∧ (0xC000 : Word).toNat ≤ 0xDDFF) ∧
    (0xC000 ≤ (0xDDFF : Word).toNat ∧ (0xDDFF : Word).toNat ≤ 0xDDFF) := by decide +kernel
theorem witness_MmuLaws_other : (0xFE00 : Word) ≠ 0xDE00 ∧
    ¬ (0xC000 ≤ (0xDE00 : Word).toNat ∧ (0xDE00 : Word).toNat ≤ 0xDDFF ∧ (0xFE00 : Word) = 0xDE00 + 0x2000) ∧
    ¬ (0xC000 ≤ (0xFE00 : Word).toNat ∧ (0xFE00 : Word).toNat ≤ 0xDDFF ∧ (0xDE00 : Word) = 0xFE00 + 0x2000) := by decide +kernel
theorem witness_UnmappedRange : let s := { e0 with pc := 0xFEFF, h := 0xFE, l := 0xFF }
    0xFEA0 ≤ (0xFEFF : Word).toNat ∧ (0xFEFF : Word).toNat ≤ 0xFEFF ∧ pack s.h s.l = 0xFEFF ∧ s.pc = 0xFEFF := by decide +kernel
theorem witness_WordAccess : e0.mem.wf = true ∧
    ¬ (0xFEA0 ≤ (0xFFFF : Word).toNat ∧ (0xFFFF : Word).toNat ≤ 0xFEFF) ∧
    ¬ (0xFEA0 ≤ (0xFFFF + 1 : Word).toNat ∧ (0xFFFF + 1 : Word).toNat ≤ 0xFEFF) := by decide +kernel
theorem witness_WordAccess_oam_end : ¬ (0xFEA0 ≤ (0xFE9E : Word).toNat ∧ (0xFE9E : Word).toNat ≤ 0xFEFF) ∧
    ¬ (0xFEA0 ≤ (0xFE9E + 1 : Word).toNat ∧ (0xFE9E + 1 : Word).toNat ≤ 0xFEFF) := by decide +kernel
theorem witness_RouteTable : route 0x7FFF = some (.rom, 0x7FFF) ∧ route 0x8000 = some (.vram, 0) ∧
    route 0x9FFF = some (.vram, 0x1FFF) ∧ route 0xA000 = some (.cram, 0) ∧ route 0xBFFF = some (.cram, 0x1FFF) ∧
    route 0xC000 = some (.wram, 0) ∧ route 0xDFFF = some (.wram, 0x1FFF) ∧ route 0xE000 = some (.wram, 0) := by decide +kernel
theorem witness_RouteTable_high : route 0xFDFF = some (.wram, 0x1DFF) ∧ route 0xFE00 = some (.oam, 0) ∧
    route 0xFE9F = some (.oam, 0x9F) ∧ route 0xFEA0 = none ∧ route 0xFEFF = none ∧ route 0xFF00 = some (.zram, 0) ∧
    route 0xFFFF = some (.zram, 0xFF) ∧ route 0xDE00 = some (.wram, 0x1E00) := by decide +kernel
theorem witness_MemoryCanonical : Memory.wf (Memory.writeByte [] 0xFF40 0x00) = true ∧
    ∀ a : Word, Memory.readByte [] a = Memory.readByte [] a := ⟨by decide +kernel, fun _ => rfl⟩
theorem witness_FlagOperations : (0xF0 : Byte) &&& 0x0F = 0 ∧ (0x00 : Byte) &&& 0x0F = 0 := by decide +kernel
theorem witness_PairViews : e0.f &&& 0x0F = 0 := by decide +kernel

/-- A `RAM_INIT` of zeros. -/
def zeroRam : RamInit :=
  { vram := Vector.replicate _ 0x00, cram := Vector.replicate _ 0x00, wram := Vector.replicate _ 0x00,
    oam := Vector.replicate _ 0x00, zram := Vector.replicate _ 0x00 }

theorem witness_ConstructState :
    ∃ s, construct defaultConfig (List.replicate 0x8000 0x00) zeroRam ioSeedDefault = some s :=
  ⟨_, if_pos ⟨Nat.le_of_eq List.length_replicate.symm, by decide +kernel⟩⟩
theorem witness_ConstructState_seed : (0xFF05, 0x00) ∈ ioSeedDefault ∧ (0xFFFF, 0x00) ∈ ioSeedDefault ∧
    ∀ p ∈ ioSeedDefault, p.1 ≠ BitVec.ofNat 16 (0xFF00 + 0x00) ∧ p.1 ≠ BitVec.ofNat 16 (0xFF00 + 0xFE) := by
  have h : (ioSeedDefault.all fun p => decide (p.1 ≠ BitVec.ofNat 16 (0xFF00 + 0x00) ∧
      p.1 ≠ BitVec.ofNat 16 (0xFF00 + 0xFE))) = true := by decide +kernel
  exact ⟨by decide +kernel, by decide +kernel, fun p hp => of_decide_eq_true (List.all_eq_true.mp h p hp)⟩
theorem witness_ConstructRefusal : 0x8000 ≤ (List.replicate 0x8001 (0x00 : Byte)).length :=
  Nat.le_trans (Nat.le_succ 0x8000) (Nat.le_of_eq List.length_replicate.symm)
theorem witness_IncThenDec : let s := e0.setPair .HL 0xFE9F
    s.mem.wf = true ∧ ¬ (0xFEA0 ≤ (s.pair .HL).toNat ∧ (s.pair .HL).toNat ≤ 0xFEFF) := by decide +kernel
theorem witness_JumpToSelf : let s := { State.reset with mem := writeBytes [] 0x0100 [0xC3, 0x00, 0x01] }
    s.readByte s.pc = 0xC3 ∧ s.readByte (s.pc + 1) = s.pc.extractLsb' 0 8 ∧
      s.readByte (s.pc + 2) = s.pc.extractLsb' 8 8 := by decide +kernel
theorem witness_StoreSeenByNextFetch :
    let s := { State.reset with pc := 0xC000, h := 0xE0, l := 0x01, mem := writeBytes [] 0xC000 [0x77] }
    s.mem.wf = true ∧ s.readByte s.pc = 0x77 ∧ keyOf (s.pair .HL) = keyOf (s.pc + 1) ∧ keyOf (s.pc + 1) ≠ none := by
  decide +kernel

end Sys2Proof.Tests
end

section
/-!
Proofs of the statements of 00_scope.md: the bit packing of R8.
-/
namespace Sys2Proof

@[simp] theorem extractLsb'_high_pack (hi lo : Byte) : (pack hi lo).extractLsb' 8 8 = hi :=
  congrArg Prod.fst (unpack_of_pack hi lo)

@[simp] theorem extractLsb'_low_pack (hi lo : Byte) : (pack hi lo).extractLsb' 0 8 = lo :=
  congrArg Prod.snd (unpack_of_pack hi lo)

/-- Settles O24: the value of `pack` is its arithmetic law, `unpack` is its definition, and the rest are the two round
trips, whose components give the bytes of `pack`. -/
theorem packUnpack : Obligations.PackUnpack := by
  intro hi lo v
  exact ⟨pack_toNat hi lo, extractLsb'_high_pack hi lo, extractLsb'_low_pack hi lo, rfl, pack_of_unpack v,
    unpack_of_pack hi lo⟩

end Sys2Proof
end

section
/-!
What a completing instruction does: `exec` read through the opcode table, and one inversion lemma for it that names the
handler, from which the state's invariant and frames follow.
-/
namespace Sys2Proof.Machine

/-- `exec` is the table-driven engine of 40_step.md R133. -/
theorem exec_eq_dispatch (i : Instr) (s : State) : exec i s = dispatch i.entry i s := by
  cases i <;> rfl

/-- The handlers that can give a next state, each with what the table entry of the instruction then is. -/
inductive ExecNext (i : Instr) (s t : State) : Prop
  | nop (ha : i.entry.action = .nop) (h : handleNop i s = .next t)
  | ld (dest src : Loc) (ha : i.entry.action = .ld) (ho : i.entry.operands = [dest, src])
      (h : handleLd i dest src s = .next t)
  | ld16 (dest src : Loc) (ha : i.entry.action = .ld16) (ho : i.entry.operands = [dest, src])
      (h : handleLd16 i dest src s = .next t)
  | jp (c : Cond) (target : Loc) (ha : i.entry.action = .jp) (h : handleJp i c target s = .next t)
  | cpl (ha : i.entry.action = .cpl) (h : handleCpl i s = .next t)
  | ccf (ha : i.entry.action = .ccf) (h : handleCcf i s = .next t)
  | inc (l : Loc) (ha : i.entry.action = .inc) (ho : i.entry.operands = [l]) (h : handleInc i l s = .next t)
  | dec (l : Loc) (ha : i.entry.action = .dec) (ho : i.entry.operands = [l]) (h : handleDec i l s = .next t)
  | inc16 (l : Loc) (ha : i.entry.action = .inc16) (ho : i.entry.operands = [l]) (h : handleInc16 i l s = .next t)
  | dec16 (l : Loc) (ha : i.entry.action = .dec16) (ho : i.entry.operands = [l]) (h : handleDec16 i l s = .next t)
  | xor (dest src : Loc) (ha : i.entry.action = .xor) (ho : i.entry.operands = [dest, src])
      (h : handleXor i dest src s = .next t)

/-- An instruction that completes went through one of the executing handlers. -/
theorem exec_next {i : Instr} {s t : State} (h : exec i s = .next t) : ExecNext i s t := by
  rw [exec_eq_dispatch] at h
  unfold dispatch at h
  split at h
  case h_1 ha _ _ => exact .nop ha h
  case h_2 ha _ ho => exact .ld _ _ ha ho h
  case h_3 ha _ ho => exact .ld16 _ _ ha ho h
  case h_4 ha _ _ => exact .jp _ _ ha h
  case h_5 ha _ _ => exact .cpl ha h
  case h_6 ha _ _ => exact .ccf ha h
  case h_7 ha _ ho => exact .inc _ ha ho h
  case h_8 ha _ ho => exact .dec _ ha ho h
  case h_9 ha _ ho => exact .inc16 _ ha ho h
  case h_10 ha _ ho => exact .dec16 _ ha ho h
  case h_11 ha _ ho => exact .xor _ _ ha ho h
  all_goals exact absurd h (raise_ne_next _ _ _ _)

/-- A step that completes decodes the bytes at `pc` and runs the instruction. -/
theorem step_next_iff {s t : State} :
    step s = .next t ↔ ∃ p, decode (rawBytes s.mem s.pc) = .ok p ∧ exec p.1 s = .next t := by
  unfold step
  cases decode (rawBytes s.mem s.pc) <;> simp

/-- A store of a byte to a place: one register or one byte of memory; what `write8` does (`write8_cases`). -/
def Stored8 (p : Place) (v : Byte) (s t : State) : Prop :=
  (∃ r, p = .reg8 r ∧ t = s.setReg8 r v) ∨ (∃ a, p = .byteAt a ∧ t = s.writeByte a v)

/-- A store of a word to a place: one pair or one word of memory; what `write16` does (`write16_cases`). -/
def Stored16 (p : Place) (v : Word) (s t : State) : Prop :=
  (∃ rr, p = .reg16 rr ∧ t = s.setPair rr v) ∨ (∃ a, p = .wordAt a ∧ t = s.writeWord a v)

/-! ### A completing instruction is a chain of elementary writes -/

/-- One elementary write to the state: a register, a pair, the flag byte, `pc`, or memory. -/
inductive Write : State → State → Prop
  | pc (s : State) (v : Word) : Write s (s.setPc v)
  | reg8 (s : State) (r : Reg8) (v : Byte) : Write s (s.setReg8 r v)
  | pair (s : State) (rr : Pair) (v : Word) : Write s (s.setPair rr v)
  | flags (s : State) (v : Byte) : Write s (s.setF v)
  | byte (s : State) (a : Word) (v : Byte) : Write s (s.writeByte a v)
  | word (s : State) (a v : Word) : Write s (s.writeWord a v)

/-- A chain of elementary writes. -/
inductive Writes (s : State) : State → Prop
  | refl : Writes s s
  | tail {t u : State} (h : Writes s t) (hw : Write t u) : Writes s u

theorem Write.writes {s t : State} (h : Write s t) : Writes s t := Writes.refl.tail h

theorem Writes.trans {s t u : State} (h : Writes s t) (h' : Writes t u) : Writes s u := by
  induction h' with
  | refl => exact h
  | tail _ hw ih => exact ih.tail hw

theorem advance_writes (i : Instr) (s : State) : Writes s (advance i s) := (Write.pc ..).writes

theorem resolve_writes (i : Instr) (l : Loc) (s : State) : Writes s (resolve i l s).2 := by
  obtain h | h | h := resolve_state i l s <;> rw [h]
  · exact .refl
  · exact (Write.pair ..).writes
  · exact (Write.pair ..).writes

theorem Stored8.write {p : Place} {v : Byte} {s t : State} (h : Stored8 p v s t) : Write s t := by
  obtain ⟨r, -, rfl⟩ | ⟨a, -, rfl⟩ := h
  · exact .reg8 ..
  · exact .byte ..

theorem Stored16.write {p : Place} {v : Word} {s t : State} (h : Stored16 p v s t) : Write s t := by
  obtain ⟨r, -, rfl⟩ | ⟨a, -, rfl⟩ := h
  · exact .pair ..
  · exact .word ..

theorem handleLd_writes {i : Instr} {dest src : Loc} {s t : State} (h : handleLd i dest src s = .next t) :
    Writes s t := by
  obtain ⟨v, _, _, -, rfl, rfl, hw⟩ := handleLd_next h
  exact (((advance_writes i s).trans (resolve_writes ..)).trans (resolve_writes ..)).tail (Stored8.write hw)

theorem handleLd16_writes {i : Instr} {dest src : Loc} {s t : State} (h : handleLd16 i dest src s = .next t) :
    Writes s t := by
  obtain ⟨v, _, _, -, rfl, rfl, hw⟩ := handleLd16_next h
  exact (((advance_writes i s).trans (resolve_writes ..)).trans (resolve_writes ..)).tail (Stored16.write hw)

theorem handleJp_writes {i : Instr} {c : Cond} {target : Loc} {s t : State} (h : handleJp i c target s = .next t) :
    Writes s t := by
  obtain ⟨v, _, -, rfl, rfl⟩ := handleJp_next h
  have hr := (advance_writes i s).trans (resolve_writes i target _)
  split
  · exact hr.tail (.pc ..)
  · exact hr

theorem modify8_writes {i : Instr} {l : Loc} {value : Byte → Byte} {flags : Byte → Byte → Byte} {s t : State}
    (h : modify8 i l value flags s = some t) : Writes s t := by
  obtain ⟨old, u, -, hw, rfl⟩ := modify8_some h
  exact ((resolve_writes i l s).tail (Stored8.write hw)).tail (.flags ..)

theorem modify16_writes {i : Instr} {l : Loc} {value : Word → Word} {s t : State}
    (h : modify16 i l value s = some t) : Writes s t := by
  obtain ⟨old, -, hw⟩ := modify16_some h
  exact (resolve_writes i l s).tail (Stored16.write hw)

theorem handleCpl_writes {i : Instr} {s t : State} (h : handleCpl i s = .next t) : Writes s t := by
  have ha := (advance_writes i s).tail (.reg8 _ .A (~~~s.a))
  obtain rfl := handleCpl_next h
  split
  · exact ha.tail (.flags ..)
  · exact ha

theorem handleXor_writes {i : Instr} {dest src : Loc} {s t : State} (h : handleXor i dest src s = .next t) :
    Writes s t := by
  obtain ⟨v, d, _, _, u, -, rfl, rfl, -, hw, rfl⟩ := handleXor_next h
  have hr := ((advance_writes i s).trans (resolve_writes i src _)).trans (resolve_writes i dest _)
  exact (hr.tail (Stored8.write hw)).tail (.flags ..)

/-- An instruction that completes is a chain of elementary writes. -/
theorem exec_writes {i : Instr} {s t : State} (h : exec i s = .next t) : Writes s t := by
  cases exec_next h with
  | nop _ h => exact handleNop_next h ▸ advance_writes i s
  | ld _ _ _ _ h => exact handleLd_writes h
  | ld16 _ _ _ _ h => exact handleLd16_writes h
  | jp _ _ _ h => exact handleJp_writes h
  | cpl _ h => exact handleCpl_writes h
  | ccf _ h => exact handleCcf_next h ▸ (advance_writes i s).tail (.flags ..)
  | inc _ _ _ h => exact (advance_writes i s).trans (modify8_writes (handleInc_next h))
  | dec _ _ _ h => exact (advance_writes i s).trans (modify8_writes (handleDec_next h))
  | inc16 _ _ _ h => exact (advance_writes i s).trans (modify16_writes (handleInc16_next h))
  | dec16 _ _ _ h => exact (advance_writes i s).trans (modify16_writes (handleDec16_next h))
  | xor _ _ _ _ h => exact handleXor_writes h

theorem step_writes {s t : State} (h : step s = .next t) : Writes s t := by
  obtain ⟨p, -, hx⟩ := step_next_iff.mp h
  exact exec_writes hx

/-! ### What every elementary write keeps -/

theorem setPair_f_low {s : State} (rr : Pair) (v : Word) (h : s.f &&& 0x0F = 0) :
    (s.setPair rr v).f &&& 0x0F = 0 := by
  cases rr with
  | AF => exact normF_and_low _
  | BC | DE | HL => exact h

theorem Write.inv {s t : State} (h : Write s t) (hs : s.Inv) : t.Inv := by
  obtain ⟨hf, hm⟩ := hs
  cases h with
  | pc v => exact ⟨hf, hm⟩
  | reg8 r v => exact ⟨by rwa [State.setReg8_f], by rwa [State.setReg8_mem]⟩
  | pair rr v => exact ⟨setPair_f_low rr v hf, by rwa [State.setPair_mem]⟩
  | flags v => exact ⟨normF_and_low v, hm⟩
  | byte a v => exact ⟨hf, Memory.wf_writeByte a v hm⟩
  | word a v => exact ⟨hf, Memory.wf_writeWord a v hm⟩

theorem Writes.inv {s t : State} (h : Writes s t) (hs : s.Inv) : t.Inv := by
  induction h with
  | refl => exact hs
  | tail _ hw ih => exact hw.inv ih

theorem Write.sp_cfg {s t : State} (h : Write s t) : t.sp = s.sp ∧ t.cfg = s.cfg := by
  cases h <;> simp

theorem Writes.sp_cfg {s t : State} (h : Writes s t) : t.sp = s.sp ∧ t.cfg = s.cfg := by
  induction h with
  | refl => exact ⟨rfl, rfl⟩
  | tail _ hw ih => exact ⟨hw.sp_cfg.1.trans ih.1, hw.sp_cfg.2.trans ih.2⟩

/-- Settles O6: a completing step is a chain of elementary writes, and each of them keeps the invariant. -/
theorem stepKeepsInvariant : Obligations.StepKeepsInvariant :=
  fun _ _ hs h => (step_writes h).inv hs

/-- Settles O7: the reset flag byte is 0xB0, and the memory list is empty. -/
theorem resetMeetsInvariant : Obligations.ResetMeetsInvariant :=
  ⟨by decide, Memory.wf_nil⟩

/-- Settles O11: no elementary write touches `sp` or the parameters. -/
theorem spNeverWritten : Obligations.SpNeverWritten :=
  fun _ _ h => (step_writes h).sp_cfg

end Sys2Proof.Machine
end

section
/-!
Noninterference of `sp`: every operation a handler calls commutes with a change of `sp`.
-/
namespace Sys2Proof.Machine

/-- The same state with another stack pointer. -/
def State.withSp (s : State) (v : Word) : State := { s with sp := v }

@[simp] theorem State.withSp_f (s : State) (v : Word) : (s.withSp v).f = s.f := rfl
@[simp] theorem State.withSp_setF (s : State) (v : Word) (b : Byte) :
    (s.withSp v).setF b = (s.setF b).withSp v := rfl
@[simp] theorem State.withSp_setPc (s : State) (v w : Word) : (s.withSp v).setPc w = (s.setPc w).withSp v := rfl
@[simp] theorem advance_withSp (i : Instr) (s : State) (v : Word) :
    advance i (s.withSp v) = (advance i s).withSp v := rfl

@[simp] theorem resolve_withSp (i : Instr) (l : Loc) (s : State) (v : Word) :
    resolve i l (s.withSp v) = ((resolve i l s).1, (resolve i l s).2.withSp v) := by
  cases l with
  | indByte rr | indWord rr => cases rr <;> rfl
  | _ => rfl

theorem read8_withSp (p : Place) (s : State) (v : Word) : read8 p (s.withSp v) = read8 p s := by
  cases p with
  | reg8 r => cases r <;> rfl
  | _ => rfl

theorem read16_withSp (p : Place) (s : State) (v : Word) : read16 p (s.withSp v) = read16 p s := by
  cases p with
  | reg16 rr => cases rr <;> rfl
  | _ => rfl

theorem write8_withSp {p : Place} {x : Byte} {s t : State} (v : Word) (h : write8 p x s = some t) :
    write8 p x (s.withSp v) = some (t.withSp v) := by
  obtain ⟨r, rfl, rfl⟩ | ⟨a, rfl, rfl⟩ := write8_cases h
  · cases r <;> rfl
  · rfl

theorem write16_withSp {p : Place} {x : Word} {s t : State} (v : Word) (h : write16 p x s = some t) :
    write16 p x (s.withSp v) = some (t.withSp v) := by
  obtain ⟨rr, rfl, rfl⟩ | ⟨a, rfl, rfl⟩ := write16_cases h
  · cases rr <;> rfl
  · rfl

theorem fetch8_withSp {i : Instr} {l : Loc} {s : State} {p : Byte × State} (v : Word) (h : fetch8 i l s = some p) :
    fetch8 i l (s.withSp v) = some (p.1, p.2.withSp v) := by
  obtain ⟨hr, hs⟩ := fetch8_some h
  simp only [fetch8, resolve_withSp, read8_withSp, hr, hs, Option.map_some]

theorem fetch16_withSp {i : Instr} {l : Loc} {s : State} {p : Word × State} (v : Word)
    (h : fetch16 i l s = some p) : fetch16 i l (s.withSp v) = some (p.1, p.2.withSp v) := by
  obtain ⟨hr, hs⟩ := fetch16_some h
  simp only [fetch16, resolve_withSp, read16_withSp, hr, hs, Option.map_some]

theorem store8_withSp {i : Instr} {l : Loc} {x : Byte} {s t : State} (v : Word) (h : store8 i l x s = some t) :
    store8 i l x (s.withSp v) = some (t.withSp v) := by
  rw [store8, resolve_withSp]
  exact write8_withSp v h

theorem store16_withSp {i : Instr} {l : Loc} {x : Word} {s t : State} (v : Word) (h : store16 i l x s = some t) :
    store16 i l x (s.withSp v) = some (t.withSp v) := by
  rw [store16, resolve_withSp]
  exact write16_withSp v h

theorem modify8_withSp {i : Instr} {l : Loc} {value : Byte → Byte} {flags : Byte → Byte → Byte} {s t : State}
    (v : Word) (h : modify8 i l value flags s = some t) :
    modify8 i l value flags (s.withSp v) = some (t.withSp v) := by
  obtain ⟨old, hr, hm⟩ := Option.bind_eq_some_iff.mp h
  obtain ⟨u, hw, rfl⟩ := Option.map_eq_some_iff.mp hm
  rw [modify8, resolve_withSp]
  exact Option.bind_eq_some_iff.mpr ⟨old, (read8_withSp ..).trans hr,
    Option.map_eq_some_iff.mpr ⟨u.withSp v, write8_withSp v hw, rfl⟩⟩

theorem modify16_withSp {i : Instr} {l : Loc} {value : Word → Word} {s t : State} (v : Word)
    (h : modify16 i l value s = some t) : modify16 i l value (s.withSp v) = some (t.withSp v) := by
  obtain ⟨old, hr, hw⟩ := Option.bind_eq_some_iff.mp h
  rw [modify16, resolve_withSp]
  exact Option.bind_eq_some_iff.mpr ⟨old, (read16_withSp ..).trans hr, write16_withSp v hw⟩

/-! ### The handlers -/

theorem handleNop_withSp {i : Instr} {s t : State} (v : Word) (h : handleNop i s = .next t) :
    handleNop i (s.withSp v) = .next (t.withSp v) := by
  rw [handleNop_next h]
  rfl

theorem handleLd_withSp {i : Instr} {dest src : Loc} {s t : State} (v : Word) (h : handleLd i dest src s = .next t) :
    handleLd i dest src (s.withSp v) = .next (t.withSp v) := by
  obtain ⟨p, hp, hw⟩ := Option.bind_eq_some_iff.mp (finish_next.mp h)
  exact finish_next.mpr (Option.bind_eq_some_iff.mpr ⟨_, fetch8_withSp v hp, store8_withSp v hw⟩)

theorem handleLd16_withSp {i : Instr} {dest src : Loc} {s t : State} (v : Word)
    (h : handleLd16 i dest src s = .next t) : handleLd16 i dest src (s.withSp v) = .next (t.withSp v) := by
  obtain ⟨p, hp, hw⟩ := Option.bind_eq_some_iff.mp (finish_next.mp h)
  exact finish_next.mpr (Option.bind_eq_some_iff.mpr ⟨_, fetch16_withSp v hp, store16_withSp v hw⟩)

theorem handleJp_withSp {i : Instr} {c : Cond} {target : Loc} {s t : State} (v : Word)
    (h : handleJp i c target s = .next t) : handleJp i c target (s.withSp v) = .next (t.withSp v) := by
  obtain ⟨p, hp, rfl⟩ := Option.map_eq_some_iff.mp (finish_next.mp h)
  exact finish_next.mpr (Option.map_eq_some_iff.mpr ⟨_, fetch16_withSp v hp,
    (apply_ite (State.withSp · v) (condHolds c p.2.f = true) (p.2.setPc p.1) p.2).symm⟩)

theorem handleXor_withSp {i : Instr} {dest src : Loc} {s t : State} (v : Word)
    (h : handleXor i dest src s = .next t) : handleXor i dest src (s.withSp v) = .next (t.withSp v) := by
  obtain ⟨p, hp, hd⟩ := Option.bind_eq_some_iff.mp (finish_next.mp h)
  obtain ⟨d, hrd, hm⟩ := Option.bind_eq_some_iff.mp hd
  obtain ⟨u, hw, rfl⟩ := Option.map_eq_some_iff.mp hm
  refine finish_next.mpr (Option.bind_eq_some_iff.mpr ⟨_, fetch8_withSp v hp, ?_⟩)
  rw [resolve_withSp]
  exact Option.bind_eq_some_iff.mpr ⟨d, (read8_withSp ..).trans hrd,
    Option.map_eq_some_iff.mpr ⟨u.withSp v, write8_withSp v hw, rfl⟩⟩

theorem handleCpl_withSp {i : Instr} {s t : State} (v : Word) (h : handleCpl i s = .next t) :
    handleCpl i (s.withSp v) = .next (t.withSp v) := by
  rw [handleCpl_next h, apply_ite (State.withSp · v)]
  rfl

theorem handleCcf_withSp {i : Instr} {s t : State} (v : Word) (h : handleCcf i s = .next t) :
    handleCcf i (s.withSp v) = .next (t.withSp v) := by
  rw [handleCcf_next h]
  rfl

/-- An instruction that completes completes alike whatever `sp` holds. -/
theorem exec_withSp {i : Instr} {s t : State} (v : Word) (h : exec i s = .next t) :
    exec i (s.withSp v) = .next (t.withSp v) := by
  rw [exec_eq_dispatch] at h ⊢
  revert h
  unfold dispatch
  split <;> intro h
  case h_1 => exact handleNop_withSp v h
  case h_2 => exact handleLd_withSp v h
  case h_3 => exact handleLd16_withSp v h
  case h_4 => exact handleJp_withSp v h
  case h_5 => exact handleCpl_withSp v h
  case h_6 => exact handleCcf_withSp v h
  case h_7 => exact finish_next.mpr (modify8_withSp v (finish_next.mp h))
  case h_8 => exact finish_next.mpr (modify8_withSp v (finish_next.mp h))
  case h_9 => exact finish_next.mpr (modify16_withSp v (finish_next.mp h))
  case h_10 => exact finish_next.mpr (modify16_withSp v (finish_next.mp h))
  case h_11 => exact handleXor_withSp v h
  all_goals exact absurd h (raise_ne_next _ _ _ _)

/-- Settles O12: the fetch reads `mem` and `pc` only, and every handler commutes with a change of `sp`. -/
theorem spNeverRead : Obligations.SpNeverRead := by
  intro s t v h
  obtain ⟨p, hd, hx⟩ := step_next_iff.mp h
  exact step_next_iff.mpr ⟨p, hd, exec_withSp v hx⟩

end Sys2Proof.Machine
end

section
/-!
The frames of an instruction: which flags and which general registers it leaves alone (10_state.md R36, R37).
-/
namespace Sys2Proof.Machine

/-! ### The table has no `AF` operand -/

theorem opcodeEntry_mem (b0 : Byte) : opcodeEntry b0 ∈ opcodeTable := by
  rw [opcodeEntry_eq]
  exact List.getElem_mem _

/-- `AF` is no operand of any row (10_state.md R26). -/
theorem not_mem_operands_AF {e : Entry} (he : e ∈ opcodeTable) : Loc.reg16 .AF ∉ e.operands := by
  revert e
  decide +kernel

theorem ne_AF_of_mem_operands {i : Instr} {l : Loc} (h : l ∈ i.entry.operands) : l ≠ .reg16 .AF := by
  rintro rfl
  exact not_mem_operands_AF (opcodeEntry_mem i.opcode) h

/-! ### What a Location resolves to -/

/-- A Location that resolves to a register is that register. -/
theorem eq_reg8_of_resolve {i : Instr} {l : Loc} {s : State} {r : Reg8} (h : (resolve i l s).1 = .reg8 r) :
    l = .reg8 r := by
  cases l with
  | reg8 => rw [Place.reg8.inj h]
  | reg16 | indByte | indC | indHLInc | indHLDec | indWord => cases h
  | imm8 | immIndByte8 | immIndWord8 =>
    simp only [resolve, immByte] at h
    split at h <;> cases h
  | imm16 | immIndByte16 | immIndWord16 =>
    simp only [resolve, immWord] at h
    split at h <;> cases h

/-- A Location that resolves to a pair is that pair. -/
theorem eq_reg16_of_resolve {i : Instr} {l : Loc} {s : State} {rr : Pair} (h : (resolve i l s).1 = .reg16 rr) :
    l = .reg16 rr := by
  cases l with
  | reg16 => rw [Place.reg16.inj h]
  | reg8 | indByte | indC | indHLInc | indHLDec | indWord => cases h
  | imm8 | immIndByte8 | immIndWord8 =>
    simp only [resolve, immByte] at h
    split at h <;> cases h
  | imm16 | immIndByte16 | immIndWord16 =>
    simp only [resolve, immWord] at h
    split at h <;> cases h

/-- Resolving a Location that is read as 16 bits has no side effect. -/
theorem resolve_state_of_read16 {i : Instr} {l : Loc} {s u : State} {v : Word}
    (h : read16 (resolve i l s).1 u = some v) : (resolve i l s).2 = s := by
  cases l with
  | indHLInc | indHLDec => cases h
  | _ => rfl

/-! ### The flag frame -/

theorem Stored8.f {p : Place} {v : Byte} {s t : State} (h : Stored8 p v s t) : t.f = s.f := by
  obtain ⟨r, -, rfl⟩ | ⟨a, -, rfl⟩ := h <;> simp

/-- A store of 16 bits changes `F` only through `AF`. -/
theorem Stored16.f {i : Instr} {l : Loc} {v : Word} {s u t : State} (hl : l ≠ .reg16 .AF)
    (h : Stored16 (resolve i l s).1 v u t) : t.f = u.f := by
  obtain ⟨rr, hp, rfl⟩ | ⟨a, -, rfl⟩ := h
  · cases rr with
    | AF => exact absurd (eq_reg16_of_resolve hp) hl
    | BC | DE | HL => rfl
  · rfl

theorem handleLd_f {i : Instr} {dest src : Loc} {s t : State} (h : handleLd i dest src s = .next t) : t.f = s.f := by
  obtain ⟨v, _, _, -, rfl, rfl, hw⟩ := handleLd_next h
  simpa using Stored8.f hw

theorem handleLd16_f {i : Instr} {dest src : Loc} {s t : State} (hd : dest ≠ .reg16 .AF)
    (h : handleLd16 i dest src s = .next t) : t.f = s.f := by
  obtain ⟨v, _, _, -, rfl, rfl, hw⟩ := handleLd16_next h
  simpa using Stored16.f hd hw

theorem handleJp_f {i : Instr} {c : Cond} {target : Loc} {s t : State} (h : handleJp i c target s = .next t) :
    t.f = s.f := by
  obtain ⟨v, _, -, rfl, rfl⟩ := handleJp_next h
  split <;> simp

theorem modify16_f {i : Instr} {l : Loc} {value : Word → Word} {s t : State} (hl : l ≠ .reg16 .AF)
    (h : modify16 i l value s = some t) : t.f = s.f := by
  obtain ⟨old, -, hw⟩ := modify16_some h
  simpa using Stored16.f hl hw

/-- `F` after an 8-bit modification is the flag computation on the flag byte before it. -/
theorem modify8_f {i : Instr} {l : Loc} {value : Byte → Byte} {flags : Byte → Byte → Byte} {s t : State}
    (h : modify8 i l value flags s = some t) : ∃ old, t.f = normF (flags s.f old) := by
  obtain ⟨old, u, -, hw, rfl⟩ := modify8_some h
  have hu : u.f = s.f := by simpa using Stored8.f hw
  exact ⟨old, by rw [State.setF_f, hu]⟩

theorem handleInc_flag_C {i : Instr} {l : Loc} {s t : State} (h : handleInc i l s = .next t) :
    t.flag .C = s.flag .C := by
  obtain ⟨old, hf⟩ := modify8_f (handleInc_next h)
  simp [State.flag, hf, hasFlag_normF, hasFlag_incFlags]

theorem handleDec_flag_C {i : Instr} {l : Loc} {s t : State} (h : handleDec i l s = .next t) :
    t.flag .C = s.flag .C := by
  obtain ⟨old, hf⟩ := modify8_f (handleDec_next h)
  simp [State.flag, hf, hasFlag_normF, hasFlag_decFlags]

theorem handleCcf_flag_Z {i : Instr} {s t : State} (h : handleCcf i s = .next t) : t.flag .Z = s.flag .Z := by
  simp [handleCcf_next h, State.flag, hasFlag_normF, ccfFlags, hasFlag_setFlag, hasFlag_flipFlag]

theorem handleCpl_f {i : Instr} {s t : State} (hc : s.cfg.cplSetsNH = false) (h : handleCpl i s = .next t) :
    t.f = s.f := by
  simp [handleCpl_next h, hc]

/-- `CPL` writes SUBTRACT and HALF_CARRY at most. -/
theorem handleCpl_flag {i : Instr} {s t : State} {f : Flag} (hN : f ≠ .N) (hH : f ≠ .H)
    (h : handleCpl i s = .next t) : t.flag f = s.flag f := by
  rw [handleCpl_next h]
  split <;> simp [State.flag, hasFlag_normF, cplFlags, hasFlag_setFlag, hN, hH]

/-- Settles O13: each executing handler's effect on `F`; the 16-bit ones write no `AF` because the table has no such
operand. -/
theorem flagFrame : Obligations.FlagFrame := by
  intro i s t h
  cases exec_next h with
  | nop ha h => simp [ha, handleNop_next h]
  | ld dest src ha ho h => simp [ha, handleLd_f h]
  | ld16 dest src ha ho h => simp [ha, handleLd16_f (ne_AF_of_mem_operands (i := i) (by simp [ho])) h]
  | jp c target ha h => simp [ha, handleJp_f h]
  | cpl ha h =>
    simp only [ha]
    exact ⟨by simp, fun _ hc => handleCpl_f hc h, by simp, by simp,
      fun _ => ⟨handleCpl_flag (by decide) (by decide) h, handleCpl_flag (by decide) (by decide) h⟩⟩
  | ccf ha h => simp [ha, handleCcf_flag_Z h]
  | inc l ha ho h => simp [ha, handleInc_flag_C h]
  | dec l ha ho h => simp [ha, handleDec_flag_C h]
  | inc16 l ha ho h =>
    simp [ha, modify16_f (ne_AF_of_mem_operands (i := i) (by simp [ho])) (handleInc16_next h)]
  | dec16 l ha ho h =>
    simp [ha, modify16_f (ne_AF_of_mem_operands (i := i) (by simp [ho])) (handleDec16_next h)]
  | xor dest src ha ho h => simp [ha]

/-! ### The register frame -/

@[simp] theorem State.reg8_writeWord (s : State) (a v : Word) (r : Reg8) : (s.writeWord a v).reg8 r = s.reg8 r := by
  cases r <;> rfl

/-- A write of a pair changes no general register but the pair's own. -/
theorem State.reg8_setPair_of_not_mem {s : State} {rr : Pair} {r : Reg8} (v : Word) (h : r ∉ pairRegs rr) :
    (s.setPair rr v).reg8 r = s.reg8 r := by
  revert h
  cases rr <;> cases r <;> simp [pairRegs]

theorem resolve_reg8 {l : Loc} {r : Reg8} (i : Instr) (s : State) (h : r ∉ resolveRegs l) :
    (resolve i l s).2.reg8 r = s.reg8 r := by
  cases l with
  | indHLInc | indHLDec => exact State.reg8_setPair_of_not_mem _ h
  | _ => rfl

theorem Stored8.reg8 {i : Instr} {l : Loc} {v : Byte} {s u t : State} {r : Reg8} (hr : r ∉ destRegs l)
    (h : Stored8 (resolve i l s).1 v u t) : t.reg8 r = u.reg8 r := by
  obtain ⟨q, hp, rfl⟩ | ⟨a, -, rfl⟩ := h
  · rw [eq_reg8_of_resolve hp] at hr
    rw [State.reg8_setReg8, if_neg (by simpa [destRegs] using hr)]
  · exact State.reg8_writeByte ..

theorem Stored16.reg8 {i : Instr} {l : Loc} {v : Word} {s u t : State} {r : Reg8} (hr : r ∉ destRegs l)
    (h : Stored16 (resolve i l s).1 v u t) : t.reg8 r = u.reg8 r := by
  obtain ⟨rr, hp, rfl⟩ | ⟨a, -, rfl⟩ := h
  · rw [eq_reg16_of_resolve hp] at hr
    exact State.reg8_setPair_of_not_mem v hr
  · exact State.reg8_writeWord ..

theorem handleLd_reg8 {i : Instr} {dest src : Loc} {s t : State} {r : Reg8} (hd : r ∉ destRegs dest)
    (hrd : r ∉ resolveRegs dest) (hrs : r ∉ resolveRegs src) (h : handleLd i dest src s = .next t) :
    t.reg8 r = s.reg8 r := by
  obtain ⟨v, _, _, -, rfl, rfl, hw⟩ := handleLd_next h
  rw [Stored8.reg8 hd hw, resolve_reg8 i _ hrd, resolve_reg8 i _ hrs, State.reg8_advance]

theorem handleLd16_reg8 {i : Instr} {dest src : Loc} {s t : State} {r : Reg8} (hd : r ∉ destRegs dest)
    (hrd : r ∉ resolveRegs dest) (hrs : r ∉ resolveRegs src) (h : handleLd16 i dest src s = .next t) :
    t.reg8 r = s.reg8 r := by
  obtain ⟨v, _, _, -, rfl, rfl, hw⟩ := handleLd16_next h
  rw [Stored16.reg8 hd hw, resolve_reg8 i _ hrd, resolve_reg8 i _ hrs, State.reg8_advance]

theorem handleXor_reg8 {i : Instr} {dest src : Loc} {s t : State} {r : Reg8} (hd : r ∉ destRegs dest)
    (hrd : r ∉ resolveRegs dest) (hrs : r ∉ resolveRegs src) (h : handleXor i dest src s = .next t) :
    t.reg8 r = s.reg8 r := by
  obtain ⟨v, d, _, _, u, -, rfl, rfl, -, hw, rfl⟩ := handleXor_next h
  rw [State.reg8_setF, Stored8.reg8 hd hw, resolve_reg8 i _ hrd, resolve_reg8 i _ hrs, State.reg8_advance]

theorem handleJp_reg8 {i : Instr} {c : Cond} {target : Loc} {s t : State} (r : Reg8)
    (h : handleJp i c target s = .next t) : t.reg8 r = s.reg8 r := by
  obtain ⟨v, _, hr, rfl, rfl⟩ := handleJp_next h
  rw [resolve_state_of_read16 hr]
  split <;> simp

theorem modify8_reg8 {i : Instr} {l : Loc} {value : Byte → Byte} {flags : Byte → Byte → Byte} {s t : State}
    {r : Reg8} (hd : r ∉ destRegs l) (hr : r ∉ resolveRegs l) (h : modify8 i l value flags s = some t) :
    t.reg8 r = s.reg8 r := by
  obtain ⟨old, u, -, hw, rfl⟩ := modify8_some h
  rw [State.reg8_setF, Stored8.reg8 hd hw, resolve_reg8 i _ hr]

theorem modify16_reg8 {i : Instr} {l : Loc} {value : Word → Word} {s t : State} {r : Reg8} (hd : r ∉ destRegs l)
    (hr : r ∉ resolveRegs l) (h : modify16 i l value s = some t) : t.reg8 r = s.reg8 r := by
  obtain ⟨old, -, hw⟩ := modify16_some h
  rw [Stored16.reg8 hd hw, resolve_reg8 i _ hr]

/-- `CPL` writes no general register but `A`. -/
theorem handleCpl_reg8 {i : Instr} {s t : State} {r : Reg8} (hr : r ≠ .A) (h : handleCpl i s = .next t) :
    t.reg8 r = s.reg8 r := by
  rw [handleCpl_next h]
  split <;> simp [hr]

/-- The registers outside the written ones of a row with a destination and a source. -/
theorem not_mem_writtenRegs_two {i : Instr} {dest src : Loc} {r : Reg8} (ha : i.entry.action ∈ [.ld, .ld16, .xor])
    (ho : i.entry.operands = [dest, src]) (hr : r ∉ writtenRegs i) :
    r ∉ destRegs dest ∧ r ∉ resolveRegs dest ∧ r ∉ resolveRegs src := by
  simp only [List.mem_cons, List.not_mem_nil, or_false] at ha
  obtain ha | ha | ha := ha <;> simpa [writtenRegs, ha, ho] using hr

/-- The registers outside the written ones of a row with one operand that is modified. -/
theorem not_mem_writtenRegs_one {i : Instr} {l : Loc} {r : Reg8}
    (ha : i.entry.action ∈ [.inc, .dec, .inc16, .dec16]) (ho : i.entry.operands = [l]) (hr : r ∉ writtenRegs i) :
    r ∉ destRegs l ∧ r ∉ resolveRegs l := by
  simp only [List.mem_cons, List.not_mem_nil, or_false] at ha
  obtain ha | ha | ha | ha := ha <;> simpa [writtenRegs, ha, ho] using hr

/-- Settles O16: handler by handler, the registers outside the destination's and the resolved Locations' are kept. -/
theorem registerFrame : Obligations.RegisterFrame := by
  intro i s t r h hr
  cases exec_next h with
  | nop ha h => rw [handleNop_next h, State.reg8_advance]
  | ld dest src ha ho h =>
    obtain ⟨hd, hrd, hrs⟩ := not_mem_writtenRegs_two (by simp [ha]) ho hr
    exact handleLd_reg8 hd hrd hrs h
  | ld16 dest src ha ho h =>
    obtain ⟨hd, hrd, hrs⟩ := not_mem_writtenRegs_two (by simp [ha]) ho hr
    exact handleLd16_reg8 hd hrd hrs h
  | jp c target ha h => exact handleJp_reg8 r h
  | cpl ha h => exact handleCpl_reg8 (by simpa [writtenRegs, ha] using hr) h
  | ccf ha h => rw [handleCcf_next h, State.reg8_setF, State.reg8_advance]
  | inc l ha ho h =>
    obtain ⟨hd, hrl⟩ := not_mem_writtenRegs_one (by simp [ha]) ho hr
    simpa using modify8_reg8 hd hrl (handleInc_next h)
  | dec l ha ho h =>
    obtain ⟨hd, hrl⟩ := not_mem_writtenRegs_one (by simp [ha]) ho hr
    simpa using modify8_reg8 hd hrl (handleDec_next h)
  | inc16 l ha ho h =>
    obtain ⟨hd, hrl⟩ := not_mem_writtenRegs_one (by simp [ha]) ho hr
    simpa using modify16_reg8 hd hrl (handleInc16_next h)
  | dec16 l ha ho h =>
    obtain ⟨hd, hrl⟩ := not_mem_writtenRegs_one (by simp [ha]) ho hr
    simpa using modify16_reg8 hd hrl (handleDec16_next h)
  | xor dest src ha ho h =>
    obtain ⟨hd, hrd, hrs⟩ := not_mem_writtenRegs_two (by simp [ha]) ho hr
    exact handleXor_reg8 hd hrd hrs h

end Sys2Proof.Machine
end

section
/-!
The parts of the state: the routing table, the flag operations, the paired views and the registers at reset.
-/
namespace Sys2Proof.Machine

/-! ### The routing table (20_memory.md R61) -/

/-- The address a store and an offset are routed from: the store's own range, or the mirror of working RAM. -/
theorem route_some {a : Word} {st : Store} {o : Nat} (h : route a = some (st, o)) :
    o < st.size ∧ (a.toNat = st.base + o ∨ st = .wram ∧ a.toNat = 0xE000 + o ∧ o < 0x1E00) := by
  have ha := a.isLt
  simp only [route] at h
  repeat' split at h
  all_goals cases h
  all_goals simp only [Store.size, Store.base, reduceCtorEq, false_and, or_false, true_and]
  all_goals omega

/-- Settles O20: each row of the table by its range, the last two clauses by the ranges a store is routed from. -/
theorem routeTable : Obligations.RouteTable := by
  intro a
  refine ⟨?rom, ?vram, ?cram, ?wram, ?mirror, ?oam, ?unmapped, ?zram, fun st o h => (route_some h).1, ?top⟩
  case top =>
    intro o h ho
    obtain ⟨-, h | ⟨-, -, hlt⟩⟩ := route_some h
    · exact h
    · omega
  all_goals
    intros
    simp (disch := omega) only [route, if_pos, if_neg]

/-! ### The flag operations (10_state.md R24) -/

theorem normF_eq_self {v : Byte} (h : v &&& 0x0F = 0) : normF v = v := by
  calc v &&& 0xF0 = (v &&& 0xF0) ||| (v &&& 0x0F) := by rw [h]; exact BitVec.or_zero.symm
    _ = v := by rw [← BitVec.and_or_distrib_left]; exact BitVec.and_allOnes

theorem flagMask_low (f : Flag) : flagMask f &&& 0x0F = 0 := by cases f <;> rfl

theorem xor_and_distrib_right {w : Nat} (x y z : BitVec w) : (x ^^^ y) &&& z = (x &&& z) ^^^ (y &&& z) := by
  ext k
  simp [Bool.and_xor_distrib_right]

/-- Settles O22: on a flag byte with a zero low nibble the mask of a write of `F` takes nothing away, and the last two
clauses are the flag-by-flag laws of the operations. -/
theorem flagOperations : Obligations.FlagOperations := by
  intro fb f g b h
  have hm := flagMask_low f
  refine ⟨?_, ?_, ?_, hasFlag_setFlag fb f g b, hasFlag_flipFlag fb f g⟩
  · rw [hasFlag, Bool.eq_iff_iff, bne_iff_ne, decide_eq_true_iff]
  · unfold setFlag
    apply normF_eq_self
    split
    · rw [BitVec.and_or_distrib_right, h, hm]; rfl
    · rw [BitVec.and_assoc, BitVec.and_comm (~~~_), ← BitVec.and_assoc, h]; exact BitVec.zero_and
  · apply normF_eq_self
    rw [xor_and_distrib_right, h, hm]; rfl

/-! ### The paired views (10_state.md R25, R26) -/

theorem setPair_pair_AF {s : State} (h : s.f &&& 0x0F = 0) : s.setPair .AF (s.pair .AF) = s := by
  simp [State.setPair, State.pair, normF_eq_self h]

theorem pair_setPair_AF (s : State) (v : Word) : (s.setPair .AF v).pair .AF = v &&& 0xFFF0 := by
  have hmask : (0xFFF0 : Word) = pack 0xFF 0xF0 := rfl
  have hhi : (unpack v).1 &&& 0xFF = (unpack v).1 := BitVec.and_allOnes
  calc pack (unpack v).1 ((unpack v).2 &&& 0xF0)
      = pack ((unpack v).1 &&& 0xFF) ((unpack v).2 &&& 0xF0) := by rw [hhi]
    _ = pack (unpack v).1 (unpack v).2 &&& pack 0xFF 0xF0 := BitVec.and_append.symm
    _ = v &&& 0xFFF0 := by rw [pack_of_unpack, hmask]

/-- Settles O23: reads and writes of a pair by definition, the round trips by those of `pack` and `unpack`. -/
theorem pairViews : Obligations.PairViews := by
  intro s v
  refine ⟨rfl, rfl, rfl, rfl, rfl, rfl, rfl, rfl, pack_of_unpack v, pack_of_unpack v, pack_of_unpack v,
    pair_setPair_AF s v, ?_, ?_, ?_, setPair_pair_AF, fun _ => not_mem_operands_AF⟩
  all_goals simp [State.setPair, State.pair]

/-- Settles O25: the fields of `State.reset` are literals. -/
theorem resetRegisters : Obligations.ResetRegisters := by
  unfold Obligations.ResetRegisters
  decide

end Sys2Proof.Machine
end

section
/-!
What `construct` leaves: the six stores filled one after the other, then the I/O page seeded (70_reset_and_hazards.md
R644).
-/
namespace Sys2Proof.Machine

/-! ### Filling the stores -/

/-- Every offset inside a store is a key. -/
theorem validKey_store {st : Store} {k : Nat} (h : st.base ≤ k) (h' : k < st.base + st.size) : validKey k = true := by
  simp only [validKey, Bool.or_eq_true, Bool.and_eq_true, decide_eq_true_eq]
  cases st <;> simp only [Store.base, Store.size] at h h' <;> omega

/-- The stores have no key in common. -/
theorem store_disjoint {st st' : Store} {n : Nat} (hne : st ≠ st') (h : n < st.size) :
    st.base + n < st'.base ∨ st'.base + st'.size ≤ st.base + n := by
  cases st <;> cases st' <;> simp only [ne_eq, not_true, Store.base, Store.size] at hne h ⊢ <;> omega

/-- Fill some stores from their first bytes on. -/
def fillStores (img : Store → List Byte) (m : Memory) : List Store → Memory
  | [] => m
  | st :: l => fillStores img (fillFrom m st.base (img st)) l

section
variable {img : Store → List Byte} (hl : ∀ st, (img st).length = st.size)
include hl

theorem wf_fillStore {m : Memory} (st : Store) (hm : m.wf = true) : (fillFrom m st.base (img st)).wf = true :=
  wf_fillFrom _ _ _ hm fun _ h h' => validKey_store h (hl st ▸ h')

theorem wf_fillStores {m : Memory} (l : List Store) (hm : m.wf = true) : (fillStores img m l).wf = true := by
  induction l generalizing m with
  | nil => exact hm
  | cons st l ih => exact ih (wf_fillStore hl st hm)

theorem readKey_fillStores_of_not_mem {m : Memory} {l : List Store} {st : Store} {n : Nat} (hst : st ∉ l)
    (hn : n < st.size) : (fillStores img m l).readKey (st.base + n) = m.readKey (st.base + n) := by
  induction l generalizing m with
  | nil => rfl
  | cons q l ih =>
    obtain ⟨hq, hl'⟩ := not_or.mp fun e => hst (List.mem_cons.mpr e)
    rw [fillStores, ih hl', readKey_fillFrom_outside _ _ _ _ (hl q ▸ store_disjoint hq hn)]

/-- A store that is filled once holds its bytes. -/
theorem readKey_fillStores {m : Memory} {l : List Store} {st : Store} {n : Nat} (hm : m.wf = true) (hd : l.Nodup)
    (hst : st ∈ l) (hn : n < st.size) :
    (fillStores img m l).readKey (st.base + n) = (img st)[n]'(hl st ▸ hn) := by
  induction l generalizing m with
  | nil => cases hst
  | cons q l ih =>
    obtain ⟨hq, hd⟩ := List.nodup_cons.mp hd
    obtain rfl | hst := List.mem_cons.mp hst
    · rw [fillStores, readKey_fillStores_of_not_mem hl hq hn]
      exact readKey_fillFrom_inside _ _ _ _ hm (fun _ h h' => validKey_store h (hl st ▸ h')) _
    · exact ih (wf_fillStore hl q hm) hd hst

end

/-! ### Seeding the I/O page -/

/-- An address of the I/O page is its own key. -/
theorem keyOf_io {a : Word} (h : 0xFF00 ≤ a) : keyOf a = some a.toNat := by
  have h' : 0xFF00 ≤ a.toNat := h
  simp (disch := omega) only [keyOf_eq, if_neg]

/-- A seeded address reads as its byte, where the seed's addresses are distinct. -/
theorem readByte_seedIo {l : List (Word × Byte)} {m : Memory} {p : Word × Byte} (hm : m.wf = true)
    (hio : ∀ q ∈ l, 0xFF00 ≤ q.1) (hd : l.Pairwise fun p q => p.1 ≠ q.1) (hp : p ∈ l) :
    (seedIo m l).readByte p.1 = p.2 := by
  induction l generalizing m with
  | nil => cases hp
  | cons q l ih =>
    obtain ⟨hq, hd⟩ := List.pairwise_cons.mp hd
    obtain rfl | hp := List.mem_cons.mp hp
    · have hk : keyOf p.1 = some p.1.toNat := keyOf_io (hio p (List.mem_cons_self ..))
      have hout : ∀ r ∈ l, keyOf r.1 ≠ some p.1.toNat := by
        intro r hr e
        rw [keyOf_io (hio r (List.mem_cons_of_mem _ hr)), Option.some.injEq] at e
        exact hq r hr (BitVec.eq_of_toNat_eq e.symm)
      have hread := Memory.readByte_writeByte_same p.2 hm hk hk
      simp only [Memory.readByte, hk] at hread ⊢
      rw [seedIo, readKey_seedIo_outside _ _ _ hout, hread]
    · exact ih (Memory.wf_writeByte _ _ hm) (fun r hr => hio r (List.mem_cons_of_mem _ hr)) hd hp

/-! ### `construct` -/

/-- The bytes `construct` fills each store with (70_reset_and_hazards.md R641, R642). -/
def storeImage (rom : List Byte) (ram : RamInit) : Store → List Byte
  | .rom => rom.take 0x8000
  | .vram => ram.vram.toList
  | .cram => ram.cram.toList
  | .wram => ram.wram.toList
  | .oam => ram.oam.toList
  | .zram => ram.zram.toList

theorem storeImage_length {rom : List Byte} (ram : RamInit) (h : 0x8000 ≤ rom.length) (st : Store) :
    (storeImage rom ram st).length = st.size := by
  cases st with
  | rom => exact List.length_take_of_le h
  | vram | cram | wram | oam | zram => exact Vector.length_toList

/-- The stores before the I/O page is seeded. -/
def filledStores (rom : List Byte) (ram : RamInit) : Memory :=
  fillStores (storeImage rom ram) [] [.rom, .vram, .cram, .wram, .oam, .zram]

/-- `construct` builds a machine from a long enough image and an `IO_SEED` only, and then the reset state over the
filled and seeded stores. -/
theorem construct_some {cfg : Config} {rom : List Byte} {ram : RamInit} {seed : List (Word × Byte)} {s : State}
    (h : construct cfg rom ram seed = some s) : 0x8000 ≤ rom.length ∧ seedOk seed = true ∧
      s = { State.reset with mem := seedIo (filledStores rom ram) seed, cfg := cfg } := by
  unfold construct at h
  split at h
  · next hok => exact ⟨hok.1, hok.2, (Option.some.inj h).symm⟩
  · cases h

theorem wf_filledStores {rom : List Byte} (ram : RamInit) (h : 0x8000 ≤ rom.length) :
    (filledStores rom ram).wf = true :=
  wf_fillStores (storeImage_length ram h) _ Memory.wf_nil

/-- A byte of a store that no seeded address names is the byte the store was filled with. -/
theorem readByte_seedIo_filledStores {rom : List Byte} {ram : RamInit} {seed : List (Word × Byte)} {st : Store}
    {n : Nat} (h : 0x8000 ≤ rom.length) (hn : n < st.size) (hio : ∀ p ∈ seed, 0xFF00 ≤ p.1)
    (hout : ∀ p ∈ seed, p.1 ≠ BitVec.ofNat 16 (st.base + n)) :
    (seedIo (filledStores rom ram) seed).readByte (BitVec.ofNat 16 (st.base + n)) =
      (storeImage rom ram st)[n]'(storeImage_length ram h st ▸ hn) := by
  have hkey := keyOf_ofNat (validKey_store (Nat.le_add_right st.base n) (Nat.add_lt_add_left hn _))
  have hseed : ∀ p ∈ seed, keyOf p.1 ≠ some (st.base + n) := by
    intro p hp e
    rw [keyOf_io (hio p hp), Option.some.injEq] at e
    exact hout p hp (by rw [← e, BitVec.ofNat_toNat, BitVec.setWidth_eq])
  simp only [Memory.readByte, hkey]
  rw [readKey_seedIo_outside _ _ _ hseed]
  exact readKey_fillStores (storeImage_length ram h) Memory.wf_nil (by decide) (by cases st <;> decide) hn

/-- An address of another store than the I/O page is no address of the I/O page. -/
theorem io_ne_ofNat_store {a : Word} {st : Store} {n : Nat} (ha : 0xFF00 ≤ a) (hst : st ≠ .zram) (hn : n < st.size) :
    a ≠ BitVec.ofNat 16 (st.base + n) := by
  rintro rfl
  have h : 0xFF00 ≤ (st.base + n) % 2 ^ 16 := by rw [← BitVec.toNat_ofNat]; exact ha
  cases st <;> simp only [Store.base, Store.size, ne_eq, not_true] at h hst hn <;> omega

/-- Settles O26: the registers are those of `State.reset`; a byte below the I/O page and an unseeded byte in it is the
byte its store was filled with, a seeded one the seed's. -/
theorem constructState : Obligations.ConstructState := by
  intro cfg rom ram seed s h
  obtain ⟨hrom, hseed, rfl⟩ := construct_some h
  obtain ⟨hio, hdist⟩ := (seedOk_iff seed).mp hseed
  have hwf := wf_filledStores ram hrom
  have hstore (st : Store) (hst : st ≠ .zram) {n : Nat} (hn : n < st.size) :=
    readByte_seedIo_filledStores (ram := ram) hrom hn hio fun p hp => io_ne_ofNat_store (hio p hp) hst hn
  obtain ⟨ha, hf, hb, hc, hd, he, hh, hl, hsp, hpc, hAF, hBC, hDE, hHL, -⟩ := resetRegisters
  refine ⟨ha, hf, hb, hc, hd, he, hh, hl, hAF, hBC, hDE, hHL, hsp, hpc, rfl,
    ⟨resetMeetsInvariant.1, wf_seedIo _ _ hwf⟩, ?rom, ?vram, ?cram, ?wram, ?oam,
    fun p hp => readByte_seedIo hwf hio hdist hp, ?zram⟩
  case rom =>
    intro k hk
    have hread := (hstore .rom (by decide) hk).trans List.getElem_take
    rw [show Store.rom.base + k = k from Nat.zero_add k] at hread
    rw [List.getElem?_eq_getElem (Nat.lt_of_lt_of_le hk hrom), ← hread]
    rfl
  case vram => exact fun k hk => (hstore .vram (by decide) hk).trans (Vector.getElem_toList ..)
  case cram => exact fun k hk => (hstore .cram (by decide) hk).trans (Vector.getElem_toList ..)
  case wram => exact fun k hk => (hstore .wram (by decide) hk).trans (Vector.getElem_toList ..)
  case oam => exact fun k hk => (hstore .oam (by decide) hk).trans (Vector.getElem_toList ..)
  case zram =>
    intro k hk hout
    exact (readByte_seedIo_filledStores (st := .zram) hrom hk hio hout).trans (Vector.getElem_toList ..)

end Sys2Proof.Machine
end

section
/-!
Memory as the instructions see it: what a byte and a word read back after a write, the unmapped range, and the fetch.
-/
namespace Sys2Proof.Machine

/-! ### Byte accesses (20_memory.md R62, R63, R65) -/

theorem State.readByte_writeByte_same {s : State} {a b : Word} (v : Byte) (hm : s.mem.wf = true)
    (ha : keyOf a ≠ none) (hb : keyOf b = keyOf a) : (s.writeByte a v).readByte b = v := by
  obtain ⟨k, hk⟩ := Option.ne_none_iff_exists'.mp ha
  exact Memory.readByte_writeByte_same v hm hk (hb.trans hk)

theorem State.readByte_writeByte_other (s : State) {a b : Word} (v : Byte) (h : keyOf b ≠ keyOf a) :
    (s.writeByte a v).readByte b = s.readByte b :=
  Memory.readByte_writeByte_other s.mem v h

theorem State.readByte_unmapped (s : State) {a : Word} (h : keyOf a = none) : s.readByte a = 0x00 :=
  Memory.readByte_unmapped s.mem h

theorem State.writeByte_unmapped (s : State) {a : Word} (v : Byte) (h : keyOf a = none) : s.writeByte a v = s := by
  rw [State.writeByte, Memory.writeByte_unmapped _ _ h]

theorem keyOf_mirror {a : Word} (h : 0xC000 ≤ a.toNat) (h' : a.toNat ≤ 0xDDFF) : keyOf (a + 0x2000) = keyOf a := by
  have hadd : (a + 0x2000).toNat = a.toNat + 0x2000 := by bv_omega
  rw [keyOf_eq, keyOf_eq, hadd]
  simp (disch := omega) only [if_pos, if_neg, Nat.add_sub_cancel]

/-- Two addresses 0x2000 apart share a key only where the upper one mirrors the lower. -/
theorem mirror_of_keyOf {a b : Word} {k : Nat} (ha : keyOf a = some k) (hb : keyOf b = some k)
    (h : b.toNat = a.toNat + 0x2000) : 0xC000 ≤ a.toNat ∧ a.toNat ≤ 0xDDFF ∧ b = a + 0x2000 := by
  have hba : b = a + 0x2000 := by bv_omega
  rw [keyOf_eq] at ha hb
  split at ha <;> repeat' split at hb
  all_goals simp only [Option.some.injEq, reduceCtorEq] at ha hb
  all_goals exact ⟨by omega, by omega, hba⟩

/-- A write is not seen through an address that is neither its own nor its mirror. -/
theorem State.readByte_writeByte_of_not_alias (s : State) {a b : Word} (v : Byte) (hne : b ≠ a)
    (hab : ¬ (0xC000 ≤ a.toNat ∧ a.toNat ≤ 0xDDFF ∧ b = a + 0x2000))
    (hba : ¬ (0xC000 ≤ b.toNat ∧ b.toNat ≤ 0xDDFF ∧ a = b + 0x2000)) :
    (s.writeByte a v).readByte b = s.readByte b := by
  cases ha : keyOf a with
  | none => rw [s.writeByte_unmapped v ha]
  | some k =>
    refine s.readByte_writeByte_other v fun hk => ?_
    rw [ha] at hk
    obtain h | h | h := keyOf_inj hk ha
    · exact hne h
    · exact hab (mirror_of_keyOf ha hk h)
    · exact hba (mirror_of_keyOf hk ha h)

/-! ### Word accesses (20_memory.md R69 to R72) -/

theorem keyOf_ne_keyOf_succ {a : Word} (h : keyOf a ≠ none) : keyOf a ≠ keyOf (a + 1) := by
  obtain ⟨k, hk⟩ := Option.ne_none_iff_exists'.mp h
  intro e
  obtain h | h | h := keyOf_inj hk (e.symm.trans hk) <;> bv_omega

/-- A low byte written at `a` and a high byte at `a + 1` are read back as their word. -/
theorem State.readWord_writeByte_writeByte {s : State} {a : Word} (hi lo : Byte) (hm : s.mem.wf = true)
    (ha : keyOf a ≠ none) (ha' : keyOf (a + 1) ≠ none) :
    ((s.writeByte a lo).writeByte (a + 1) hi).readWord a = pack hi lo := by
  have hlow : ((s.writeByte a lo).writeByte (a + 1) hi).readByte a = lo := by
    rw [readByte_writeByte_other _ hi (keyOf_ne_keyOf_succ ha), readByte_writeByte_same lo hm ha rfl]
  have hhigh : ((s.writeByte a lo).writeByte (a + 1) hi).readByte (a + 1) = hi :=
    readByte_writeByte_same hi (Memory.wf_writeByte a lo hm) ha' rfl
  calc pack (((s.writeByte a lo).writeByte (a + 1) hi).readByte (a + 1))
          (((s.writeByte a lo).writeByte (a + 1) hi).readByte a)
      = pack hi lo := by rw [hhigh, hlow]

theorem State.readWord_writeWord {s : State} {a : Word} (v : Word) (hm : s.mem.wf = true) (ha : keyOf a ≠ none)
    (ha' : keyOf (a + 1) ≠ none) : (s.writeWord a v).readWord a = v :=
  (readWord_writeByte_writeByte (unpack v).1 (unpack v).2 hm ha ha').trans (pack_of_unpack v)

/-- Settles O19: both directions are `pack` and `unpack` at two successive addresses, which never share a byte. -/
theorem wordAccess : Obligations.WordAccess := by
  intro s a v hm
  refine ⟨rfl, rfl, extractLsb'_low_pack _ _, extractLsb'_high_pack _ _, fun ha ha' => ?_⟩
  exact State.readWord_writeWord v hm (mt keyOf_eq_none_iff.mp ha) (mt keyOf_eq_none_iff.mp ha')

/-- Settles O17: a read sees a write exactly where the two addresses have one key, which are the address and its
mirror; the worked example is a low and a high byte read back as a word. -/
theorem mmuLaws : Obligations.MmuLaws := by
  intro s a v hm
  refine ⟨?mapped, ?unmapped, ?mirror, fun _ => s.readByte_writeByte_of_not_alias v,
    State.readWord_writeByte_writeByte 0x79 0x67 hm (by decide) (by decide)⟩
  case mapped => exact fun h => State.readByte_writeByte_same v hm (mt keyOf_eq_none_iff.mp h) rfl
  case unmapped =>
    intro h
    have hk := keyOf_eq_none_iff.mpr h
    exact ⟨s.readByte_unmapped hk, State.readByte_unmapped _ hk⟩
  case mirror =>
    rintro ⟨h, h'⟩
    have hmirror := keyOf_mirror h h'
    have hk : keyOf a ≠ none := mt keyOf_eq_none_iff.mp (by omega)
    have hk' : keyOf (a + 0x2000) ≠ none := by rwa [hmirror]
    exact ⟨State.readByte_writeByte_same v hm hk hmirror,
      State.readByte_writeByte_same v hm hk' hmirror.symm⟩

/-- Settles O21: by the two laws of the canonical form. -/
theorem memoryCanonical : Obligations.MemoryCanonical :=
  ⟨fun _ _ hm hm' h => Memory.eq_of_readByte hm hm' h, fun _ a v hm => Memory.wf_writeByte a v hm⟩

/-! ### The fetch (20_memory.md R78) -/

/-- The bytes fetched at an address decode to an instruction of the opcode byte there. -/
theorem decode_rawBytes (m : Memory) (p : Word) :
    ∃ imm8 imm16, decode (rawBytes m p) = .ok (instrOf (m.readByte p) imm8 imm16, []) := by
  unfold rawBytes
  split
  · next hf => exact ⟨_, _, decode_OP [] hf⟩
  · next hf => exact ⟨_, _, decode_D8 _ [] hf⟩
  · next hf => exact ⟨_, _, decode_D16 _ _ [] hf⟩

theorem step_eq_exec_instrOf (s : State) :
    ∃ imm8 imm16, step s = exec (instrOf (s.readByte s.pc) imm8 imm16) s := by
  obtain ⟨imm8, imm16, h⟩ := decode_rawBytes s.mem s.pc
  exact ⟨imm8, imm16, by rw [step, h]; rfl⟩

/-- Where an opcode byte without operand bytes stands at `pc`, its one instruction runs. -/
theorem step_eq_exec_of_opcode {s : State} {b0 : Byte} {i : Instr} (h : s.readByte s.pc = b0)
    (hi : ∀ imm8 imm16, instrOf b0 imm8 imm16 = i) : step s = exec i s := by
  obtain ⟨imm8, imm16, hs⟩ := step_eq_exec_instrOf s
  rw [hs, h, hi]

theorem exec_ld_indHL_A (s : State) :
    exec .ld_indHL_A s = .next ((advance .ld_indHL_A s).writeByte (s.pair .HL) s.a) := rfl

/-- Settles O60: the stored byte is the one at the next `pc`, and the next step decodes it. -/
theorem storeSeenByNextFetch : Obligations.StoreSeenByNextFetch := by
  intro s hm hop hkey hmapped
  have hstep := (step_eq_exec_of_opcode hop fun _ _ => rfl).trans (exec_ld_indHL_A s)
  have hread : ((advance .ld_indHL_A s).writeByte (s.pair .HL) s.a).readByte (s.pc + 1) = s.a :=
    State.readByte_writeByte_same s.a hm (hkey ▸ hmapped) hkey.symm
  obtain ⟨imm8, imm16, hnext⟩ := step_eq_exec_instrOf ((advance .ld_indHL_A s).writeByte (s.pair .HL) s.a)
  exact ⟨_, _, hstep, rfl, hread, (opcode_instrOf _ _ _).trans hread, hnext⟩

/-! ### The unmapped range (20_memory.md R66) -/

theorem exec_inc_indHL (s : State) : exec .inc_indHL s =
    .next (((advance .inc_indHL s).writeByte (s.pair .HL) (s.readByte (s.pair .HL) + 1)).setF
      (incFlags s.f (s.readByte (s.pair .HL)))) := rfl

theorem exec_dec_indHL (s : State) : exec .dec_indHL s =
    .next (((advance .dec_indHL s).writeByte (s.pair .HL) (s.readByte (s.pair .HL) - 1)).setF
      (decFlags s.f (s.readByte (s.pair .HL)))) := rfl

theorem normF_incFlags_zero (fb : Byte) : normF (incFlags fb 0x00) = fb &&& 0x10 := by
  rw [normF_incFlags, incFlags_eq]
  exact BitVec.zero_or

theorem normF_decFlags_zero (fb : Byte) : normF (decFlags fb 0x00) = 0x60 ||| (fb &&& 0x10) := by
  rw [normF_decFlags, decFlags_eq]
  rfl

/-- Settles O18: an address without a key reads 0 and takes no write, so `INC` and `DEC` compute from 0, and the fetch
finds the opcode byte of `NOP`. -/
theorem unmappedRange : Obligations.UnmappedRange := by
  intro s a v h h'
  have hk : keyOf a = none := keyOf_eq_none_iff.mpr ⟨h, h'⟩
  refine ⟨s.readByte_unmapped hk, s.writeByte_unmapped v hk, ?modify, ?fetch⟩
  case modify =>
    intro hHL
    have hHL : s.pair .HL = a := hHL
    constructor
    · rw [exec_inc_indHL, hHL, State.writeByte_unmapped _ _ hk, s.readByte_unmapped hk, State.setF,
        normF_incFlags_zero]
      rfl
    · rw [exec_dec_indHL, hHL, State.writeByte_unmapped _ _ hk, s.readByte_unmapped hk, State.setF,
        normF_decFlags_zero]
      rfl
  case fetch =>
    rintro rfl
    exact step_eq_exec_of_opcode (s.readByte_unmapped hk) fun _ _ => rfl

end Sys2Proof.Machine
end

section
/-!
The decoder and the encoder are inverse to each other (30_encoding.md): one equation of each per format, the inversion
of a decoding, and the lists too short to decode.
-/
namespace Sys2Proof

/-! ### Well-formed rows (30_encoding.md R101, 40_step.md R144) -/

theorem wellFormed_of_mem_opcodeTable {e : Entry} (he : e ∈ opcodeTable) : e.wellFormed = true := by
  revert e
  decide +kernel

theorem opcodeEntry_wellFormed (b0 : Byte) : (opcodeEntry b0).wellFormed = true :=
  wellFormed_of_mem_opcodeTable (Machine.opcodeEntry_mem b0)

theorem Instr.wellFormed_eq_true (i : Instr) : i.wellFormed = true := by
  rw [wellFormed, operand_format, beq_self_eq_true, Bool.and_true]
  exact opcodeEntry_wellFormed i.opcode

/-! ### The encoder, format by format -/

section
variable {b0 : Byte} (imm8 : Byte) (imm16 : Word)

theorem encode_instrOf_OP (h : (opcodeEntry b0).format = .OP) : encode (instrOf b0 imm8 imm16) = [b0] := by
  simp only [encode, operand_instrOf, opcode_instrOf, h, Format.operand]

theorem encode_instrOf_D8 (h : (opcodeEntry b0).format = .OP_D8) :
    encode (instrOf b0 imm8 imm16) = [b0, imm8] := by
  simp only [encode, operand_instrOf, opcode_instrOf, h, Format.operand]

theorem encode_instrOf_D16 (h : (opcodeEntry b0).format = .OP_D16) :
    encode (instrOf b0 imm8 imm16) = [b0, (unpack imm16).2, (unpack imm16).1] := by
  simp only [encode, operand_instrOf, opcode_instrOf, h, Format.operand]

end

/-! ### Decoding an encoding -/

/-- What an instruction can be: an opcode byte with the operand field of its format. -/
theorem eq_instrOf (i : Instr) :
    (∃ b0, (opcodeEntry b0).format = .OP ∧ i = instrOf b0 0 0) ∨
    (∃ b0 v, (opcodeEntry b0).format = .OP_D8 ∧ i = instrOf b0 v 0) ∨
    (∃ b0 v, (opcodeEntry b0).format = .OP_D16 ∧ i = instrOf b0 0 v) := by
  have hself := (instrOf_self i).symm
  have hformat : (opcodeEntry i.opcode).format = i.operand.format := (operand_format i).symm
  cases ho : i.operand with
  | none => rw [ho] at hself hformat; exact .inl ⟨_, hformat, hself⟩
  | imm8 v => rw [ho] at hself hformat; exact .inr (.inl ⟨_, v, hformat, hself⟩)
  | imm16 v => rw [ho] at hself hformat; exact .inr (.inr ⟨_, v, hformat, hself⟩)

theorem decode_encode (i : Instr) (rest : List Byte) : decode (encode i ++ rest) = .ok (i, rest) := by
  obtain ⟨b0, hf, rfl⟩ | ⟨b0, v, hf, rfl⟩ | ⟨b0, v, hf, rfl⟩ := eq_instrOf i
  · rw [encode_instrOf_OP _ _ hf]
    exact decode_OP rest hf
  · rw [encode_instrOf_D8 _ _ hf]
    exact decode_D8 v rest hf
  · rw [encode_instrOf_D16 _ _ hf]
    exact (decode_D16 _ _ rest hf).trans (by rw [pack_of_unpack])

/-- Settles O2: every row of the table is well formed, and the decoder reads back the operand field of each format. -/
theorem decodeOfEncode : Obligations.DecodeOfEncode :=
  fun i rest => ⟨i.wellFormed_eq_true, decode_encode i rest⟩

/-! ### Encoding what was decoded -/

/-- What a decoding can be: the opcode byte and the operand bytes of its format were there. -/
theorem decode_ok {bs rest : List Byte} {i : Instr} (h : decode bs = .ok (i, rest)) :
    (∃ b0, (opcodeEntry b0).format = .OP ∧ bs = b0 :: rest ∧ i = instrOf b0 0 0) ∨
    (∃ b0 b1, (opcodeEntry b0).format = .OP_D8 ∧ bs = b0 :: b1 :: rest ∧ i = instrOf b0 b1 0) ∨
    (∃ b0 b1 b2, (opcodeEntry b0).format = .OP_D16 ∧ bs = b0 :: b1 :: b2 :: rest ∧
      i = instrOf b0 0 (pack b2 b1)) := by
  unfold decode at h
  split at h
  · cases h
  · split at h
    · next hf => cases h; exact .inl ⟨_, hf, rfl, rfl⟩
    · next hf => cases h; exact .inr (.inl ⟨_, _, hf, rfl, rfl⟩)
    · next hf => cases h; exact .inr (.inr ⟨_, _, _, hf, rfl, rfl⟩)
    · cases h

/-- Settles O3: in each format the decoded operand field is made of the operand bytes, and they are its encoding. -/
theorem encodeOfDecode : Obligations.EncodeOfDecode := by
  intro bs i rest h
  obtain ⟨b0, hf, rfl, rfl⟩ | ⟨b0, b1, hf, rfl, rfl⟩ | ⟨b0, b1, b2, hf, rfl, rfl⟩ := decode_ok h
  · rw [encode_instrOf_OP _ _ hf]; rfl
  · rw [encode_instrOf_D8 _ _ hf]; rfl
  · rw [encode_instrOf_D16 _ _ hf, unpack_of_pack]; rfl

/-! ### Lists too short to decode -/

/-- After an opcode byte the decoder fails exactly where operand bytes of the entry's length are missing. -/
theorem decode_cons_error_iff (b0 : Byte) (rest : List Byte) :
    (∃ e, decode (b0 :: rest) = .error e) ↔ (b0 :: rest).length < (opcodeEntry b0).format.length := by
  cases hf : (opcodeEntry b0).format with
  | OP => simp [decode_OP rest hf, Format.length]
  | OP_D8 =>
    match rest with
    | [] => simp [decode_D8_short hf, Format.length]
    | b1 :: rest => simp [decode_D8 b1 rest hf, Format.length]
  | OP_D16 =>
    match rest with
    | [] => simp [decode_D16_short0 hf, Format.length]
    | [b1] => simp [decode_D16_short1 b1 hf, Format.length]
    | b1 :: b2 :: rest => simp [decode_D16 b1 b2 rest hf, Format.length]

/-- Settles O4: a list is empty or begins with an opcode byte, and the fetch reads the bytes its format asks for. -/
theorem decodeFailsOnlyWhenShort : Obligations.DecodeFailsOnlyWhenShort := by
  constructor
  case left =>
    rintro (_ | ⟨b0, rest⟩)
    · exact ⟨fun _ => .inl rfl, fun _ => ⟨.noBytes, rfl⟩⟩
    · simp [decode_cons_error_iff]
  case right =>
    intro m p
    obtain ⟨_, _, h⟩ := Machine.decode_rawBytes m p
    exact ⟨_, h⟩

/-- Settles O5: each word is the encoding of its instruction, which decodes to it. -/
theorem sampleWords : Obligations.SampleWords :=
  ⟨decode_encode .nop [], decode_encode (.ld_BC_d16 0xC123) [], decode_encode .ld_indHLinc_A [],
    decode_encode .inc_indHL [], decode_encode (.ld_A_d8 0x42) [], decode_encode .cpl [], decode_encode .ccf [],
    decode_encode .ld_B_indHL [], decode_encode .halt [], decode_encode .add_A_B [], decode_encode .xor_A_A [],
    decode_encode (.jp_a16 0x1234) [], decode_encode (.prefix_CB 0x7C) [], decode_encode .illegal_D3 [],
    decode_encode (.ldh_indA8_A 0x42) []⟩

end Sys2Proof
end

section
/-!
The width contract (40_step.md R144): what a row of the table gives its handler, that every handler then completes, and
so what an instruction of each Action does.
-/
namespace Sys2Proof.Machine

/-! ### What a row of the table gives its handler -/

/-- The five checks of the width contract, on the row of an instruction. -/
theorem entry_contract (i : Instr) : i.entry.arityOk = true ∧ i.entry.widthsOk = true ∧
    i.entry.destinationOk = true ∧ i.entry.formatOk = true ∧ i.entry.condOk = true := by
  have h : i.entry.wellFormed = true := opcodeEntry_wellFormed i.opcode
  simpa only [Entry.wellFormed, Bool.and_eq_true, and_assoc] using h

theorem entry_operands_length (i : Instr) : i.entry.operands.length = i.entry.action.arity := by
  obtain ⟨h, -⟩ := entry_contract i
  exact beq_iff_eq.mp h

theorem entry_cond_isSome (i : Instr) : i.entry.cond.isSome = (i.entry.action == .jp) := by
  obtain ⟨-, -, -, -, h⟩ := entry_contract i
  exact beq_iff_eq.mp h

/-- A Location that an instruction can resolve at a width: it has the width, and the instruction has the operand field
that it reads. -/
structure Fits (i : Instr) (width : Nat) (l : Loc) : Prop where
  width_eq : l.width = width
  format_eq : ∀ f, l.needsFormat = some f → i.operand.format = f

theorem fits_of_mem_operands {i : Instr} {l : Loc} (hl : l ∈ i.entry.operands) :
    Fits i i.entry.action.operandWidth l := by
  obtain ⟨-, hwidths, -, hformats, -⟩ := entry_contract i
  refine ⟨beq_iff_eq.mp (List.all_eq_true.mp hwidths l hl), fun f hf => ?_⟩
  have h := List.all_eq_true.mp hformats l hl
  rw [hf] at h
  rw [operand_format]
  exact (beq_iff_eq.mp h).symm

/-- A destination is no immediate. -/
theorem writable_of_operands {i : Instr} {dest : Loc} {rest : List Loc} (ho : i.entry.operands = dest :: rest)
    (hd : i.entry.action.hasDestination = true) : dest.writable = true := by
  obtain ⟨-, -, h, -, -⟩ := entry_contract i
  simpa [Entry.destinationOk, hd, ho] using h

theorem Fits.exists_immByte {i : Instr} {l : Loc} {w : Nat} (h : Fits i w l) (hl : l.needsFormat = some .OP_D8) :
    ∃ v, ∀ f, immByte i f = f v := by
  have hf := h.format_eq _ hl
  cases ho : i.operand with
  | imm8 v => exact ⟨v, fun f => by rw [immByte, ho]; rfl⟩
  | none | imm16 v => rw [ho] at hf; cases hf

theorem Fits.exists_immWord {i : Instr} {l : Loc} {w : Nat} (h : Fits i w l) (hl : l.needsFormat = some .OP_D16) :
    ∃ v, ∀ f, immWord i f = f v := by
  have hf := h.format_eq _ hl
  cases ho : i.operand with
  | imm16 v => exact ⟨v, fun f => by rw [immWord, ho]; rfl⟩
  | none | imm8 v => rw [ho] at hf; cases hf

/-- An 8-bit Location resolves to a place of 8 bits. -/
theorem Fits.resolve8 {i : Instr} {l : Loc} (h : Fits i 8 l) (s : State) :
    (∃ r, (resolve i l s).1 = .reg8 r) ∨ (∃ a, (resolve i l s).1 = .byteAt a) ∨
      (l.writable = false ∧ ∃ v, (resolve i l s).1 = .imm8 v) := by
  cases l with
  | reg8 r => exact .inl ⟨r, rfl⟩
  | indByte | indC | indHLInc | indHLDec => exact .inr (.inl ⟨_, rfl⟩)
  | imm8 =>
    obtain ⟨v, hv⟩ := h.exists_immByte rfl
    exact .inr (.inr ⟨rfl, v, hv _⟩)
  | immIndByte8 =>
    obtain ⟨v, hv⟩ := h.exists_immByte rfl
    exact .inr (.inl ⟨_, hv _⟩)
  | immIndByte16 =>
    obtain ⟨v, hv⟩ := h.exists_immWord rfl
    exact .inr (.inl ⟨v, hv _⟩)
  | reg16 | imm16 | indWord | immIndWord8 | immIndWord16 => cases h.width_eq

/-- A 16-bit Location resolves to a place of 16 bits. -/
theorem Fits.resolve16 {i : Instr} {l : Loc} (h : Fits i 16 l) (s : State) :
    (∃ rr, (resolve i l s).1 = .reg16 rr) ∨ (∃ a, (resolve i l s).1 = .wordAt a) ∨
      (l.writable = false ∧ ∃ v, (resolve i l s).1 = .imm16 v) := by
  cases l with
  | reg16 rr => exact .inl ⟨rr, rfl⟩
  | indWord => exact .inr (.inl ⟨_, rfl⟩)
  | imm16 =>
    obtain ⟨v, hv⟩ := h.exists_immWord rfl
    exact .inr (.inr ⟨rfl, v, hv _⟩)
  | immIndWord8 =>
    obtain ⟨v, hv⟩ := h.exists_immByte rfl
    exact .inr (.inl ⟨_, hv _⟩)
  | immIndWord16 =>
    obtain ⟨v, hv⟩ := h.exists_immWord rfl
    exact .inr (.inl ⟨v, hv _⟩)
  | reg8 | indByte | indC | indHLInc | indHLDec | imm8 | immIndByte8 | immIndByte16 => cases h.width_eq

section
variable {i : Instr} {l : Loc}

theorem Fits.read8 (h : Fits i 8 l) (s u : State) : ∃ v, read8 (resolve i l s).1 u = some v := by
  obtain ⟨r, hp⟩ | ⟨a, hp⟩ | ⟨-, v, hp⟩ := h.resolve8 s <;> rw [hp] <;> exact ⟨_, rfl⟩

theorem Fits.read16 (h : Fits i 16 l) (s u : State) : ∃ v, read16 (resolve i l s).1 u = some v := by
  obtain ⟨rr, hp⟩ | ⟨a, hp⟩ | ⟨-, v, hp⟩ := h.resolve16 s <;> rw [hp] <;> exact ⟨_, rfl⟩

theorem Fits.write8 (h : Fits i 8 l) (hw : l.writable = true) (v : Byte) (s u : State) :
    ∃ t, write8 (resolve i l s).1 v u = some t := by
  obtain ⟨r, hp⟩ | ⟨a, hp⟩ | ⟨hw', -⟩ := h.resolve8 s
  · rw [hp]; exact ⟨_, rfl⟩
  · rw [hp]; exact ⟨_, rfl⟩
  · simp [hw] at hw'

theorem Fits.write16 (h : Fits i 16 l) (hw : l.writable = true) (v : Word) (s u : State) :
    ∃ t, write16 (resolve i l s).1 v u = some t := by
  obtain ⟨rr, hp⟩ | ⟨a, hp⟩ | ⟨hw', -⟩ := h.resolve16 s
  · rw [hp]; exact ⟨_, rfl⟩
  · rw [hp]; exact ⟨_, rfl⟩
  · simp [hw] at hw'

theorem Fits.fetch8 (h : Fits i 8 l) (s : State) : ∃ p, fetch8 i l s = some p := by
  obtain ⟨v, hv⟩ := h.read8 s (resolve i l s).2
  exact ⟨_, Option.map_eq_some_iff.mpr ⟨v, hv, rfl⟩⟩

theorem Fits.fetch16 (h : Fits i 16 l) (s : State) : ∃ p, fetch16 i l s = some p := by
  obtain ⟨v, hv⟩ := h.read16 s (resolve i l s).2
  exact ⟨_, Option.map_eq_some_iff.mpr ⟨v, hv, rfl⟩⟩

end

/-! ### Every handler completes on Locations that fit -/

section
variable {i : Instr} {l dest src : Loc} (s : State)

theorem completes_finish {o : Option State} (h : ∃ t, o = some t) : Completes (finish i s o) := by
  obtain ⟨t, ht⟩ := h
  exact ⟨t, finish_next.mpr ht⟩

theorem handleLd_completes (hs : Fits i 8 src) (hd : Fits i 8 dest) (hw : dest.writable = true) :
    Completes (handleLd i dest src s) := by
  obtain ⟨p, hp⟩ := hs.fetch8 (advance i s)
  obtain ⟨t, ht⟩ := hd.write8 hw p.1 p.2 (resolve i dest p.2).2
  exact completes_finish s ⟨t, Option.bind_eq_some_iff.mpr ⟨p, hp, ht⟩⟩

theorem handleLd16_completes (hs : Fits i 16 src) (hd : Fits i 16 dest) (hw : dest.writable = true) :
    Completes (handleLd16 i dest src s) := by
  obtain ⟨p, hp⟩ := hs.fetch16 (advance i s)
  obtain ⟨t, ht⟩ := hd.write16 hw p.1 p.2 (resolve i dest p.2).2
  exact completes_finish s ⟨t, Option.bind_eq_some_iff.mpr ⟨p, hp, ht⟩⟩

theorem handleJp_completes (c : Cond) (h : Fits i 16 l) : Completes (handleJp i c l s) := by
  obtain ⟨p, hp⟩ := h.fetch16 (advance i s)
  exact completes_finish s ⟨_, Option.map_eq_some_iff.mpr ⟨p, hp, rfl⟩⟩

theorem handleXor_completes (hs : Fits i 8 src) (hd : Fits i 8 dest) (hw : dest.writable = true) :
    Completes (handleXor i dest src s) := by
  obtain ⟨p, hp⟩ := hs.fetch8 (advance i s)
  obtain ⟨d, hread⟩ := hd.read8 p.2 (resolve i dest p.2).2
  obtain ⟨t, ht⟩ := hd.write8 hw (d ^^^ p.1) p.2 (resolve i dest p.2).2
  exact completes_finish s ⟨_, Option.bind_eq_some_iff.mpr ⟨p, hp, Option.bind_eq_some_iff.mpr
    ⟨d, hread, Option.map_eq_some_iff.mpr ⟨t, ht, rfl⟩⟩⟩⟩

theorem modify8_isSome (value : Byte → Byte) (flags : Byte → Byte → Byte) (h : Fits i 8 l)
    (hw : l.writable = true) : ∃ t, modify8 i l value flags s = some t := by
  obtain ⟨old, hread⟩ := h.read8 s (resolve i l s).2
  obtain ⟨t, ht⟩ := h.write8 hw (value old) s (resolve i l s).2
  exact ⟨_, Option.bind_eq_some_iff.mpr ⟨old, hread, Option.map_eq_some_iff.mpr ⟨t, ht, rfl⟩⟩⟩

theorem modify16_isSome (value : Word → Word) (h : Fits i 16 l) (hw : l.writable = true) :
    ∃ t, modify16 i l value s = some t := by
  obtain ⟨old, hread⟩ := h.read16 s (resolve i l s).2
  obtain ⟨t, ht⟩ := h.write16 hw (value old) s (resolve i l s).2
  exact ⟨t, Option.bind_eq_some_iff.mpr ⟨old, hread, ht⟩⟩

end

/-! ### What an instruction of each Action does (40_step.md R133) -/

theorem cond_eq_none {i : Instr} (h : i.entry.action ≠ .jp) : i.entry.cond = none := by
  rw [← Option.not_isSome_iff_eq_none, entry_cond_isSome, beq_iff_eq]
  exact h

/-- A row whose Action takes no operand. -/
theorem row_of_arity_zero {i : Instr} {a : Action} (ha : i.entry.action = a) (h : a.arity = 0) :
    i.entry.cond = none ∧ i.entry.operands = [] := by
  subst ha
  exact ⟨cond_eq_none fun hj => by simp [hj, Action.arity] at h,
    List.length_eq_zero_iff.mp ((entry_operands_length i).trans h)⟩

/-- A row whose Action modifies its one operand. -/
theorem row_of_arity_one {i : Instr} {a : Action} (ha : i.entry.action = a) (h : a.arity = 1)
    (hd : a.hasDestination = true) :
    ∃ l, i.entry.cond = none ∧ i.entry.operands = [l] ∧ Fits i a.operandWidth l ∧ l.writable = true := by
  subst ha
  obtain ⟨l, ho⟩ := List.length_eq_one_iff.mp ((entry_operands_length i).trans h)
  exact ⟨l, cond_eq_none fun hj => by simp [hj, Action.hasDestination] at hd, ho,
    fits_of_mem_operands (by simp [ho]), writable_of_operands ho hd⟩

/-- A row whose Action has a destination and a source. -/
theorem row_of_arity_two {i : Instr} {a : Action} (ha : i.entry.action = a) (h : a.arity = 2)
    (hd : a.hasDestination = true) :
    ∃ dest src, i.entry.cond = none ∧ i.entry.operands = [dest, src] ∧ Fits i a.operandWidth dest ∧
      Fits i a.operandWidth src ∧ dest.writable = true := by
  subst ha
  have hlen := (entry_operands_length i).trans h
  obtain ⟨dest, rest, ho⟩ := List.exists_cons_of_length_eq_add_one hlen
  rw [ho] at hlen
  obtain ⟨src, rfl⟩ := List.length_eq_one_iff.mp (Nat.succ.inj hlen)
  exact ⟨dest, src, cond_eq_none fun hj => by simp [hj, Action.hasDestination] at hd, ho,
    fits_of_mem_operands (by simp [ho]), fits_of_mem_operands (by simp [ho]), writable_of_operands ho hd⟩

/-- A jump's row: its condition and its target. -/
theorem row_of_jp {i : Instr} (ha : i.entry.action = .jp) :
    ∃ c target, i.entry.cond = some c ∧ i.entry.operands = [target] ∧ Fits i 16 target := by
  obtain ⟨c, hc⟩ := Option.isSome_iff_exists.mp ((entry_cond_isSome i).trans (beq_iff_eq.mpr ha))
  obtain ⟨target, ho⟩ := List.length_eq_one_iff.mp ((entry_operands_length i).trans (congrArg Action.arity ha))
  have hf := fits_of_mem_operands (i := i) (l := target) (by simp [ho])
  rw [ha] at hf
  exact ⟨c, target, hc, ho, hf⟩

/-- An instruction of an executing Action completes in every state. -/
theorem exec_completes {i : Instr} (h : i.entry.action.executes = true) (s : State) : Completes (exec i s) := by
  rw [exec_eq_dispatch]
  cases ha : i.entry.action with
  | nop | cpl | ccf =>
    obtain ⟨hc, ho⟩ := row_of_arity_zero ha rfl
    simp only [dispatch, ha, hc, ho]
    exact ⟨_, rfl⟩
  | ld =>
    obtain ⟨dest, src, hc, ho, hd, hs, hw⟩ := row_of_arity_two ha rfl rfl
    simp only [dispatch, ha, hc, ho]
    exact handleLd_completes s hs hd hw
  | ld16 =>
    obtain ⟨dest, src, hc, ho, hd, hs, hw⟩ := row_of_arity_two ha rfl rfl
    simp only [dispatch, ha, hc, ho]
    exact handleLd16_completes s hs hd hw
  | jp =>
    obtain ⟨c, target, hc, ho, ht⟩ := row_of_jp ha
    simp only [dispatch, ha, hc, ho]
    exact handleJp_completes s c ht
  | inc | dec =>
    obtain ⟨l, hc, ho, hl, hw⟩ := row_of_arity_one ha rfl rfl
    simp only [dispatch, ha, hc, ho]
    exact completes_finish s (modify8_isSome (advance i s) _ _ hl hw)
  | inc16 | dec16 =>
    obtain ⟨l, hc, ho, hl, hw⟩ := row_of_arity_one ha rfl rfl
    simp only [dispatch, ha, hc, ho]
    exact completes_finish s (modify16_isSome (advance i s) _ hl hw)
  | xor =>
    obtain ⟨dest, src, hc, ho, hd, hs, hw⟩ := row_of_arity_two ha rfl rfl
    simp only [dispatch, ha, hc, ho]
    exact handleXor_completes s hs hd hw
  | add | add16 | adc | sub | sbc | and | or | cp | unimplemented | illegal => rw [ha] at h; cases h

/-- An instruction of the illegal Action raises `IllegalOpcode` in every state. -/
theorem exec_of_illegal {i : Instr} (h : i.entry.action = .illegal) (s : State) :
    exec i s = raise .illegalOpcode i s := by
  rw [exec_eq_dispatch]
  simp only [dispatch, h]
  rfl

/-- An instruction of any other Action raises `UnimplementedAction` in every state. -/
theorem exec_of_not_executes {i : Instr} (h : i.entry.action.executes = false) (hi : i.entry.action ≠ .illegal)
    (s : State) : exec i s = raise .unimplementedAction i s := by
  rw [exec_eq_dispatch]
  cases ha : i.entry.action with
  | add | add16 | adc | sub | sbc | and | or | cp | unimplemented => simp only [dispatch, ha]; rfl
  | illegal => exact absurd ha hi
  | _ => rw [ha] at h; cases h

/-- What an instruction can do: complete, or raise one of the two traps of the table. -/
theorem exec_cases (i : Instr) (s : State) :
    Completes (exec i s) ∨ exec i s = raise .illegalOpcode i s ∨ exec i s = raise .unimplementedAction i s := by
  cases hx : i.entry.action.executes with
  | true => exact .inl (exec_completes hx s)
  | false =>
    by_cases hi : i.entry.action = .illegal
    · exact .inr (.inl (exec_of_illegal hi s))
    · exact .inr (.inr (exec_of_not_executes hx hi s))

theorem exec_ne_contractViolation (i : Instr) (s : State) (r : TrapRecord) :
    exec i s ≠ .fault (.contractViolation r) := by
  obtain ⟨t, h⟩ | h | h := exec_cases i s <;> rw [h] <;> simp [raise]

theorem exec_ne_refused (i : Instr) (s : State) (r : Refusal) : exec i s ≠ .refused r := by
  obtain ⟨t, h⟩ | h | h := exec_cases i s <;> rw [h] <;> simp [raise]

/-- Settles O8: every row keeps the width contract, so every instruction completes or raises one of the other two traps;
and the fetch decodes to an instruction. -/
theorem noContractViolation : Obligations.NoContractViolation := by
  refine ⟨opcodeEntry_wellFormed, exec_ne_contractViolation, fun s r => ?_⟩
  obtain ⟨_, _, h⟩ := step_eq_exec_instrOf s
  rw [h]
  exact exec_ne_refused _ s r

/-- Settles O10: each arm of `exec` is the engine's handler on the row of its instruction. -/
theorem dispatchOnAction : Obligations.DispatchOnAction := exec_eq_dispatch

end Sys2Proof.Machine
end

section
/-!
The step and the fetch (30_encoding.md R106, R107, 40_step.md R130): the bytes at `pc` are the encoding of the
instruction that runs.
-/
namespace Sys2Proof.Machine

theorem encode_length (i : Instr) : (encode i).length = i.entry.format.length := by
  rw [← operand_format]
  unfold encode
  split <;> next ho => rw [ho]; rfl

/-- The fetched bytes are as many as the opcode byte's format has, at ascending addresses modulo 2^16. -/
theorem rawBytes_eq_map (m : Memory) (p : Word) : rawBytes m p =
    (List.range (opcodeEntry (m.readByte p)).format.length).map fun k => m.readByte (p + BitVec.ofNat 16 k) := by
  unfold rawBytes
  split <;> next hf => simp [hf, Format.length, List.range_succ]

/-- An instruction stands at an address: the bytes from there on are its encoding. -/
def StandsAt (m : Memory) (p : Word) (i : Instr) : Prop :=
  ∀ k (hk : k < (encode i).length), m.readByte (p + BitVec.ofNat 16 k) = (encode i)[k]

theorem StandsAt.opcode {m : Memory} {p : Word} {i : Instr} (h : StandsAt m p i) : m.readByte p = i.opcode := by
  obtain ⟨rest, he⟩ := encode_eq_cons i
  simpa [he] using h 0 (by simp [he])

/-- The fetch reads exactly the encoding of the instruction that stands at the address. -/
theorem standsAt_iff {m : Memory} {p : Word} {i : Instr} : StandsAt m p i ↔ rawBytes m p = encode i := by
  constructor
  · intro h
    have hlen : (opcodeEntry (m.readByte p)).format.length = (encode i).length := by
      rw [h.opcode, encode_length]
      rfl
    rw [rawBytes_eq_map, hlen]
    exact List.ext_getElem (by simp) fun k _ hk => by simpa using h k hk
  · intro h k hk
    simp [← h, rawBytes_eq_map]

/-- What stands at `pc` runs, and the `decode` accessor reports it. -/
theorem StandsAt.step {s : State} {i : Instr} (h : StandsAt s.mem s.pc i) :
    step s = exec i s ∧ s.decodeAt s.pc = i.decoded := by
  have hraw := standsAt_iff.mp h
  constructor
  · have hdecode : decode (rawBytes s.mem s.pc) = .ok (i, []) := by
      rw [hraw, ← decode_encode i [], List.append_nil]
    rw [Machine.step, hdecode]
  · rw [State.decodeAt, hraw, State.readByte, h.opcode]
    rfl

/-- Settles O1: the fetch reads the encoding that stands at `pc`, which decodes to its instruction; and what the fetch
decodes to is an instruction whose encoding stands there. -/
theorem stepRunsDecoded : Obligations.StepRunsDecoded := by
  intro s
  refine ⟨fun i h => StandsAt.step h, ?_⟩
  obtain ⟨imm8, imm16, hd⟩ := decode_rawBytes s.mem s.pc
  have hraw := encodeOfDecode _ _ _ hd
  rw [List.append_nil] at hraw
  exact ⟨_, standsAt_iff.mpr hraw.symm, hd⟩

end Sys2Proof.Machine
end

section
/-!
The one store of an instruction (40_step.md R149): memory changes at the store address or not at all, and which opcodes
have a store address.
-/
namespace Sys2Proof.Machine

/-! ### The Locations in memory -/

/-- The Locations whose place is in memory (40_step.md R134). -/
def inMemory : Loc → Bool
  | .indByte _ | .indC | .indHLInc | .indHLDec | .immIndByte8 | .immIndByte16 | .indWord _ | .immIndWord8
  | .immIndWord16 => true
  | .reg8 _ | .reg16 _ | .imm8 | .imm16 => false

theorem inMemory_of_address {i : Instr} {l : Loc} {s : State} (h : (resolve i l s).1.address ≠ none) :
    inMemory l = true := by
  cases l with
  | reg8 | reg16 => exact absurd rfl h
  | imm8 =>
    simp only [resolve, immByte] at h
    split at h <;> exact absurd rfl h
  | imm16 =>
    simp only [resolve, immWord] at h
    split at h <;> exact absurd rfl h
  | _ => rfl

/-- No row with 16-bit operands has one in memory (40_step.md R143). -/
theorem not_inMemory_of_mem_opcodeTable {e : Entry} (he : e ∈ opcodeTable) (hw : e.action.operandWidth = 16)
    {l : Loc} (hl : l ∈ e.operands) : inMemory l = false := by
  revert e l
  decide +kernel

/-- The first operand of a 16-bit instruction is not in memory. -/
theorem not_inMemory_of_operands {i : Instr} {a : Action} {l : Loc} {rest : List Loc} (ha : i.entry.action = a)
    (hw : a.operandWidth = 16) (ho : i.entry.operands = l :: rest) : inMemory l = false := by
  subst ha
  exact not_inMemory_of_mem_opcodeTable (opcodeEntry_mem i.opcode) hw (ho ▸ List.mem_cons_self ..)

/-! ### The store of a completing instruction -/

/-- Memory after a store to an address, if there is one. -/
def StoresAt (a? : Option Word) (s t : State) : Prop :=
  (a? = none ∧ t.mem = s.mem) ∨ ∃ a v, a? = some a ∧ t.mem = s.mem.writeByte a v

theorem Stored8.storesAt {p : Place} {v : Byte} {s t : State} (h : Stored8 p v s t) : StoresAt p.address s t := by
  obtain ⟨r, rfl, rfl⟩ | ⟨a, rfl, rfl⟩ := h
  · exact .inl ⟨rfl, State.setReg8_mem ..⟩
  · exact .inr ⟨a, v, rfl, rfl⟩

theorem Stored16.mem {i : Instr} {l : Loc} {v : Word} {s u t : State} (hl : inMemory l = false)
    (h : Stored16 (resolve i l s).1 v u t) : t.mem = u.mem := by
  obtain ⟨rr, -, rfl⟩ | ⟨a, hp, rfl⟩ := h
  · exact State.setPair_mem ..
  · have haddr : (resolve i l s).1.address ≠ none := by simp [hp, Place.address]
    simp [inMemory_of_address haddr] at hl

theorem storeAddress_of_two {i : Instr} {dest src : Loc} (ha : i.entry.action ∈ [.ld, .xor])
    (ho : i.entry.operands = [dest, src]) (s : State) :
    storeAddress i s = (resolve i dest (resolve i src (advance i s)).2).1.address := by
  simp only [List.mem_cons, List.not_mem_nil, or_false] at ha
  obtain ha | ha := ha <;> simp only [storeAddress, ha, ho]

theorem storeAddress_of_one {i : Instr} {l : Loc} (ha : i.entry.action ∈ [.inc, .dec])
    (ho : i.entry.operands = [l]) (s : State) : storeAddress i s = (resolve i l (advance i s)).1.address := by
  simp only [List.mem_cons, List.not_mem_nil, or_false] at ha
  obtain ha | ha := ha <;> simp only [storeAddress, ha, ho]

theorem storeAddress_of_other {i : Instr} (ha : i.entry.action ∉ [.ld, .xor, .inc, .dec]) (s : State) :
    storeAddress i s = none := by
  unfold storeAddress
  split <;> simp_all

theorem handleLd_storesAt {i : Instr} {dest src : Loc} {s t : State} (h : handleLd i dest src s = .next t) :
    StoresAt (resolve i dest (resolve i src (advance i s)).2).1.address s t := by
  obtain ⟨v, _, _, -, rfl, rfl, hw⟩ := handleLd_next h
  simpa [StoresAt] using Stored8.storesAt hw

theorem handleXor_storesAt {i : Instr} {dest src : Loc} {s t : State} (h : handleXor i dest src s = .next t) :
    StoresAt (resolve i dest (resolve i src (advance i s)).2).1.address s t := by
  obtain ⟨v, d, _, _, u, -, rfl, rfl, -, hw, rfl⟩ := handleXor_next h
  simpa [StoresAt] using Stored8.storesAt hw

theorem modify8_storesAt {i : Instr} {l : Loc} {value : Byte → Byte} {flags : Byte → Byte → Byte} {s t : State}
    (h : modify8 i l value flags s = some t) : StoresAt (resolve i l s).1.address s t := by
  obtain ⟨old, u, -, hw, rfl⟩ := modify8_some h
  simpa [StoresAt] using Stored8.storesAt hw

theorem handleLd16_mem {i : Instr} {dest src : Loc} {s t : State} (hd : inMemory dest = false)
    (h : handleLd16 i dest src s = .next t) : t.mem = s.mem := by
  obtain ⟨v, _, _, -, rfl, rfl, hw⟩ := handleLd16_next h
  simpa using Stored16.mem hd hw

theorem modify16_mem {i : Instr} {l : Loc} {value : Word → Word} {s t : State} (hl : inMemory l = false)
    (h : modify16 i l value s = some t) : t.mem = s.mem := by
  obtain ⟨old, -, hw⟩ := modify16_some h
  simpa using Stored16.mem hl hw

theorem handleJp_mem {i : Instr} {c : Cond} {target : Loc} {s t : State} (h : handleJp i c target s = .next t) :
    t.mem = s.mem := by
  obtain ⟨v, _, -, rfl, rfl⟩ := handleJp_next h
  split <;> simp

theorem handleCpl_mem {i : Instr} {s t : State} (h : handleCpl i s = .next t) : t.mem = s.mem := by
  rw [handleCpl_next h]
  split <;> simp

/-- A completing instruction stores one byte at its store address, or leaves memory itself. -/
theorem exec_storesAt {i : Instr} {s t : State} (h : exec i s = .next t) : StoresAt (storeAddress i s) s t := by
  have keep (ha : i.entry.action ∉ [.ld, .xor, .inc, .dec]) (hm : t.mem = s.mem) :
      StoresAt (storeAddress i s) s t := .inl ⟨storeAddress_of_other ha s, hm⟩
  cases exec_next h with
  | nop ha h => exact keep (by simp [ha]) (by simp [handleNop_next h])
  | ld dest src ha ho h => exact storeAddress_of_two (by simp [ha]) ho s ▸ handleLd_storesAt h
  | ld16 dest src ha ho h =>
    exact keep (by simp [ha]) (handleLd16_mem (not_inMemory_of_operands ha rfl ho) h)
  | jp c target ha h => exact keep (by simp [ha]) (handleJp_mem h)
  | cpl ha h => exact keep (by simp [ha]) (handleCpl_mem h)
  | ccf ha h => exact keep (by simp [ha]) (by simp [handleCcf_next h])
  | inc l ha ho h => exact storeAddress_of_one (by simp [ha]) ho s ▸ modify8_storesAt (handleInc_next h)
  | dec l ha ho h => exact storeAddress_of_one (by simp [ha]) ho s ▸ modify8_storesAt (handleDec_next h)
  | inc16 l ha ho h =>
    exact keep (by simp [ha])
      (modify16_mem (s := advance i s) (not_inMemory_of_operands ha rfl ho) (handleInc16_next h))
  | dec16 l ha ho h =>
    exact keep (by simp [ha])
      (modify16_mem (s := advance i s) (not_inMemory_of_operands ha rfl ho) (handleDec16_next h))
  | xor dest src ha ho h => exact storeAddress_of_two (by simp [ha]) ho s ▸ handleXor_storesAt h

theorem StoresAt.readByte_eq {a? : Option Word} {s t : State} {a : Word} (h : StoresAt a? s t)
    (ha : ∀ w, a? = some w → keyOf a ≠ keyOf w) : t.readByte a = s.readByte a := by
  obtain ⟨-, hm⟩ | ⟨w, v, hw, hm⟩ := h
  · rw [State.readByte, hm]; rfl
  · rw [State.readByte, hm]
    exact Memory.readByte_writeByte_other s.mem v (ha w hw)

theorem StoresAt.mem_eq {s t : State} (h : StoresAt none s t) : t.mem = s.mem := by
  obtain ⟨-, hm⟩ | ⟨w, v, hw, -⟩ := h
  · exact hm
  · cases hw

/-- Settles O14: the one store of the instruction is not seen through an address of another key. -/
theorem memoryFrame : Obligations.MemoryFrame := by
  intro i s t h
  have hs := exec_storesAt h
  refine ⟨fun w a hw ha => hs.readByte_eq (by simpa [hw] using ha), fun hnone => ?_⟩
  rw [hnone] at hs
  exact ⟨hs.mem_eq, fun a => hs.readByte_eq (by simp)⟩

/-! ### The storing opcodes -/

/-- Whether a row stores to memory: its Action writes 8 bits to its first operand, which is in memory. -/
def storesToMemory (e : Entry) : Bool :=
  match e.action, e.operands with
  | .ld, [dest, _] | .xor, [dest, _] => inMemory dest
  | .inc, [l] | .dec, [l] => inMemory l
  | _, _ => false

theorem storesToMemory_of_storeAddress {i : Instr} {s : State} (h : storeAddress i s ≠ none) :
    storesToMemory i.entry = true := by
  unfold storeAddress at h
  split at h
  case h_1 ha ho | h_2 ha ho | h_3 ha ho | h_4 ha ho =>
    simpa only [storesToMemory, ha, ho] using inMemory_of_address h
  case h_5 => exact absurd rfl h

/-- The opcodes whose row stores to memory (40_step.md R137 to R142). -/
def storingOpcodes : List Byte :=
  [0x02, 0x12, 0x22, 0x32, 0x34, 0x35, 0x36, 0x70, 0x71, 0x72, 0x73, 0x74, 0x75, 0x77, 0xE0, 0xE2, 0xEA]

theorem storesToMemory_iff (b0 : Byte) : storesToMemory (opcodeEntry b0) = decide (b0 ∈ storingOpcodes) :=
  byte_funext (f := fun b => storesToMemory (opcodeEntry b)) (g := fun b => decide (b ∈ storingOpcodes))
    (by decide +kernel) b0

/-- Settles O15: the row of each storing opcode names its Location, which resolves to the address; and the rows that
store are those seventeen. -/
theorem storeAddresses : Obligations.StoreAddresses := by
  refine ⟨fun s imm8 imm16 => ?_, fun i s h => ?_⟩
  · rw [pack_zero, pack_zero]
    exact ⟨rfl, rfl, rfl, rfl, rfl, rfl, rfl, rfl, rfl, rfl, rfl, rfl, rfl, rfl, rfl, rfl, rfl⟩
  · have hrow := storesToMemory_of_storeAddress h
    exact of_decide_eq_true ((storesToMemory_iff i.opcode).symm.trans hrow)

end Sys2Proof.Machine
end

section
/-!
`NOP` (41_nop.md R200) and the next state of an instruction of one byte that only advances `pc`.
-/
namespace Sys2Proof.Machine

theorem advance_of_length_one {i : Instr} (h : i.length = 1) (s : State) :
    advance i s = { s with pc := s.pc + 1 } := by
  rw [advance, h]
  rfl

theorem exec_nop (s : State) : exec .nop s = .next (advance .nop s) := by
  rw [exec_eq_dispatch]
  rfl

/-- Settles O29: the row of opcode 0x00 has no operand and one byte, and its Action is the advance of `pc` alone. -/
theorem nopResult : Obligations.NopResult := by
  intro s
  have hlen : Instr.nop.length = 1 := rfl
  refine ⟨rfl, ?_⟩
  rw [exec_nop, advance_of_length_one hlen]

end Sys2Proof.Machine
end

section
/-!
The 8-bit loads and stores through a register, `(HL)` and `d8` (42_ld8.md R210): what the Action does from the row of
its instruction, and one equation per kind of source and destination. An instruction is then known by its row.
-/
namespace Sys2Proof.Machine

theorem advance_of_length_two {i : Instr} (h : i.length = 2) (s : State) :
    advance i s = { s with pc := s.pc + 2 } := by
  rw [advance, h]
  rfl

/-- `LD` reads its source after the advance and then writes its destination. -/
theorem exec_ld {i : Instr} {dest src : Loc} {fmt : Format} {v : Byte} {s u t : State}
    (he : i.entry = ⟨.ld, none, [dest, src], fmt⟩) (hr : fetch8 i src (advance i s) = some (v, u))
    (hw : store8 i dest v u = some t) : exec i s = .next t := by
  rw [exec_eq_dispatch, he]
  exact finish_next.mpr (Option.bind_eq_some_iff.mpr ⟨(v, u), hr, hw⟩)

/-! ### The sources and the destinations (40_step.md R135, R137, R140) -/

theorem fetch8_reg8 (i : Instr) (q : Reg8) (s : State) : fetch8 i (.reg8 q) s = some (s.reg8 q, s) := rfl

theorem fetch8_indHL (i : Instr) (s : State) :
    fetch8 i (.indByte .HL) s = some (s.readByte (pack s.h s.l), s) := rfl

theorem fetch8_imm8 {i : Instr} {v : Byte} (ho : i.operand = .imm8 v) (s : State) :
    fetch8 i .imm8 s = some (v, s) := by
  rw [fetch8, resolve, immByte, ho]
  rfl

theorem store8_reg8 (i : Instr) (r : Reg8) (v : Byte) (s : State) :
    store8 i (.reg8 r) v s = some (s.setReg8 r v) := rfl

theorem store8_indHL (i : Instr) (v : Byte) (s : State) :
    store8 i (.indByte .HL) v s = some (s.writeByte (pack s.h s.l) v) := rfl

@[simp] theorem State.setReg8_reg8_self (s : State) (r : Reg8) : s.setReg8 r (s.reg8 r) = s := by
  cases r <;> rfl

/-! ### The next state by the row -/

theorem advance_of_entry_OP {i : Instr} {a : Action} {c : Option Cond} {ops : List Loc}
    (he : i.entry = ⟨a, c, ops, .OP⟩) (s : State) : advance i s = { s with pc := s.pc + 1 } :=
  advance_of_length_one (congrArg (·.format.length) he) s

theorem advance_of_entry_OP_D8 {i : Instr} {a : Action} {c : Option Cond} {ops : List Loc}
    (he : i.entry = ⟨a, c, ops, .OP_D8⟩) (s : State) : advance i s = { s with pc := s.pc + 2 } :=
  advance_of_length_two (congrArg (·.format.length) he) s

section
variable (i : Instr) (r q : Reg8) (v : Byte) (s : State)

/-- `LD r,q`. -/
theorem exec_ld_reg8_reg8 (he : i.entry = ⟨.ld, none, [.reg8 r, .reg8 q], .OP⟩) :
    exec i s = .next ({ s with pc := s.pc + 1 }.setReg8 r (s.reg8 q)) := by
  rw [exec_ld he (fetch8_reg8 ..) (store8_reg8 ..), State.reg8_advance, advance_of_entry_OP he]

/-- `LD r,r` writes back the value just read: only `pc` changes. -/
theorem exec_ld_reg8_self (he : i.entry = ⟨.ld, none, [.reg8 r, .reg8 r], .OP⟩) :
    exec i s = .next { s with pc := s.pc + 1 } := by
  rw [exec_ld he (fetch8_reg8 ..) (store8_reg8 ..), State.setReg8_reg8_self, advance_of_entry_OP he]

/-- `LD r,(HL)`: the address is `HL` before the write, also where `r` is `H` or `L`. -/
theorem exec_ld_reg8_indHL (he : i.entry = ⟨.ld, none, [.reg8 r, .indByte .HL], .OP⟩) :
    exec i s = .next ({ s with pc := s.pc + 1 }.setReg8 r (s.readByte (pack s.h s.l))) := by
  rw [exec_ld he (fetch8_indHL ..) (store8_reg8 ..), State.readByte_advance, advance_of_entry_OP he]

/-- `LD r,d8`. -/
theorem exec_ld_reg8_d8 (he : i.entry = ⟨.ld, none, [.reg8 r, .imm8], .OP_D8⟩) (ho : i.operand = .imm8 v) :
    exec i s = .next ({ s with pc := s.pc + 2 }.setReg8 r v) := by
  rw [exec_ld he (fetch8_imm8 ho _) (store8_reg8 ..), advance_of_entry_OP_D8 he]

/-- `LD (HL),q`: the stored byte and the address are those before the store, also where `q` is `H` or `L`. -/
theorem exec_ld_indHL_reg8 (he : i.entry = ⟨.ld, none, [.indByte .HL, .reg8 q], .OP⟩) :
    exec i s = .next { s with mem := s.mem.writeByte (pack s.h s.l) (s.reg8 q), pc := s.pc + 1 } := by
  rw [exec_ld he (fetch8_reg8 ..) (store8_indHL ..), State.reg8_advance, advance_of_entry_OP he]
  rfl

/-- `LD (HL),d8`. -/
theorem exec_ld_indHL_d8 (he : i.entry = ⟨.ld, none, [.indByte .HL, .imm8], .OP_D8⟩) (ho : i.operand = .imm8 v) :
    exec i s = .next { s with mem := s.mem.writeByte (pack s.h s.l) v, pc := s.pc + 2 } := by
  rw [exec_ld he (fetch8_imm8 ho _) (store8_indHL ..), advance_of_entry_OP_D8 he]
  rfl

end

/-! ### The rows of each destination -/

/-- Settles O30: each row has the destination `A` and its own source, and the equation of that kind of load applies. -/
theorem ldRegisterA : Obligations.LdRegisterA := by
  intro s imm8
  exact ⟨exec_ld_reg8_reg8 .ld_A_B .A .B s rfl, exec_ld_reg8_reg8 .ld_A_C .A .C s rfl,
    exec_ld_reg8_reg8 .ld_A_D .A .D s rfl, exec_ld_reg8_reg8 .ld_A_E .A .E s rfl,
    exec_ld_reg8_reg8 .ld_A_H .A .H s rfl, exec_ld_reg8_reg8 .ld_A_L .A .L s rfl,
    exec_ld_reg8_indHL .ld_A_indHL .A s rfl, exec_ld_reg8_self .ld_A_A .A s rfl,
    exec_ld_reg8_d8 (.ld_A_d8 imm8) .A imm8 s rfl rfl⟩

/-- Settles O31: each row has the destination `B` and its own source, and the equation of that kind of load applies. -/
theorem ldRegisterB : Obligations.LdRegisterB := by
  intro s imm8
  exact ⟨exec_ld_reg8_self .ld_B_B .B s rfl, exec_ld_reg8_reg8 .ld_B_C .B .C s rfl,
    exec_ld_reg8_reg8 .ld_B_D .B .D s rfl, exec_ld_reg8_reg8 .ld_B_E .B .E s rfl,
    exec_ld_reg8_reg8 .ld_B_H .B .H s rfl, exec_ld_reg8_reg8 .ld_B_L .B .L s rfl,
    exec_ld_reg8_indHL .ld_B_indHL .B s rfl, exec_ld_reg8_reg8 .ld_B_A .B .A s rfl,
    exec_ld_reg8_d8 (.ld_B_d8 imm8) .B imm8 s rfl rfl⟩

/-- Settles O32: each row has the destination `C` and its own source, and the equation of that kind of load applies. -/
theorem ldRegisterC : Obligations.LdRegisterC := by
  intro s imm8
  exact ⟨exec_ld_reg8_reg8 .ld_C_B .C .B s rfl, exec_ld_reg8_self .ld_C_C .C s rfl,
    exec_ld_reg8_reg8 .ld_C_D .C .D s rfl, exec_ld_reg8_reg8 .ld_C_E .C .E s rfl,
    exec_ld_reg8_reg8 .ld_C_H .C .H s rfl, exec_ld_reg8_reg8 .ld_C_L .C .L s rfl,
    exec_ld_reg8_indHL .ld_C_indHL .C s rfl, exec_ld_reg8_reg8 .ld_C_A .C .A s rfl,
    exec_ld_reg8_d8 (.ld_C_d8 imm8) .C imm8 s rfl rfl⟩

/-- Settles O33: each row has the destination `D` and its own source, and the equation of that kind of load applies. -/
theorem ldRegisterD : Obligations.LdRegisterD := by
  intro s imm8
  exact ⟨exec_ld_reg8_reg8 .ld_D_B .D .B s rfl, exec_ld_reg8_reg8 .ld_D_C .D .C s rfl,
    exec_ld_reg8_self .ld_D_D .D s rfl, exec_ld_reg8_reg8 .ld_D_E .D .E s rfl,
    exec_ld_reg8_reg8 .ld_D_H .D .H s rfl, exec_ld_reg8_reg8 .ld_D_L .D .L s rfl,
    exec_ld_reg8_indHL .ld_D_indHL .D s rfl, exec_ld_reg8_reg8 .ld_D_A .D .A s rfl,
    exec_ld_reg8_d8 (.ld_D_d8 imm8) .D imm8 s rfl rfl⟩

/-- Settles O34: each row has the destination `E` and its own source, and the equation of that kind of load applies. -/
theorem ldRegisterE : Obligations.LdRegisterE := by
  intro s imm8
  exact ⟨exec_ld_reg8_reg8 .ld_E_B .E .B s rfl, exec_ld_reg8_reg8 .ld_E_C .E .C s rfl,
    exec_ld_reg8_reg8 .ld_E_D .E .D s rfl, exec_ld_reg8_self .ld_E_E .E s rfl,
    exec_ld_reg8_reg8 .ld_E_H .E .H s rfl, exec_ld_reg8_reg8 .ld_E_L .E .L s rfl,
    exec_ld_reg8_indHL .ld_E_indHL .E s rfl, exec_ld_reg8_reg8 .ld_E_A .E .A s rfl,
    exec_ld_reg8_d8 (.ld_E_d8 imm8) .E imm8 s rfl rfl⟩

/-- Settles O35: each row has the destination `H` and its own source, and the equation of that kind of load applies. -/
theorem ldRegisterH : Obligations.LdRegisterH := by
  intro s imm8
  exact ⟨exec_ld_reg8_reg8 .ld_H_B .H .B s rfl, exec_ld_reg8_reg8 .ld_H_C .H .C s rfl,
    exec_ld_reg8_reg8 .ld_H_D .H .D s rfl, exec_ld_reg8_reg8 .ld_H_E .H .E s rfl,
    exec_ld_reg8_self .ld_H_H .H s rfl, exec_ld_reg8_reg8 .ld_H_L .H .L s rfl,
    exec_ld_reg8_indHL .ld_H_indHL .H s rfl, exec_ld_reg8_reg8 .ld_H_A .H .A s rfl,
    exec_ld_reg8_d8 (.ld_H_d8 imm8) .H imm8 s rfl rfl⟩

/-- Settles O36: each row has the destination `L` and its own source, and the equation of that kind of load applies. -/
theorem ldRegisterL : Obligations.LdRegisterL := by
  intro s imm8
  exact ⟨exec_ld_reg8_reg8 .ld_L_B .L .B s rfl, exec_ld_reg8_reg8 .ld_L_C .L .C s rfl,
    exec_ld_reg8_reg8 .ld_L_D .L .D s rfl, exec_ld_reg8_reg8 .ld_L_E .L .E s rfl,
    exec_ld_reg8_reg8 .ld_L_H .L .H s rfl, exec_ld_reg8_self .ld_L_L .L s rfl,
    exec_ld_reg8_indHL .ld_L_indHL .L s rfl, exec_ld_reg8_reg8 .ld_L_A .L .A s rfl,
    exec_ld_reg8_d8 (.ld_L_d8 imm8) .L imm8 s rfl rfl⟩

/-- Settles O37: each row has the destination `(HL)`, and a register or the immediate as source. -/
theorem ldStoreHL : Obligations.LdStoreHL := by
  intro s imm8
  exact ⟨exec_ld_indHL_reg8 .ld_indHL_B .B s rfl, exec_ld_indHL_reg8 .ld_indHL_C .C s rfl,
    exec_ld_indHL_reg8 .ld_indHL_D .D s rfl, exec_ld_indHL_reg8 .ld_indHL_E .E s rfl,
    exec_ld_indHL_reg8 .ld_indHL_H .H s rfl, exec_ld_indHL_reg8 .ld_indHL_L .L s rfl,
    exec_ld_indHL_reg8 .ld_indHL_A .A s rfl, exec_ld_indHL_d8 (.ld_indHL_d8 imm8) imm8 s rfl rfl⟩

end Sys2Proof.Machine
end

section
/-!
The loads and stores of `A` through memory (42_ld8_memory_forms.md): the places the Locations in memory resolve to, and
one equation of `LD` for a destination and one for a source of that kind. An instruction is then known by its row.
-/
namespace Sys2Proof.Machine

/-! ### The places of the Locations in memory (40_step.md R137, R138, R139, R141, R142) -/

section
variable (i : Instr) (s : State)

theorem resolve_indByte (rr : AddrPair) :
    resolve i (.indByte rr) s = (.byteAt (s.pair (addrPair rr)), s) := rfl

theorem resolve_indC : resolve i .indC s = (.byteAt (pack 0 s.c), s) := by
  rw [pack_zero]
  rfl

theorem resolve_indHLInc :
    resolve i .indHLInc s = (.byteAt (pack s.h s.l), s.setPair .HL (pack s.h s.l + 1)) := rfl

theorem resolve_indHLDec :
    resolve i .indHLDec s = (.byteAt (pack s.h s.l), s.setPair .HL (pack s.h s.l - 1)) := rfl

variable {i}

theorem resolve_immIndByte8 {v : Byte} (ho : i.operand = .imm8 v) :
    resolve i .immIndByte8 s = (.byteAt (s.cfg.highBase + pack 0 v), s) := by
  rw [resolve, immByte, ho, pack_zero]
  rfl

theorem resolve_immIndByte16 {v : Word} (ho : i.operand = .imm16 v) :
    resolve i .immIndByte16 s = (.byteAt v, s) := by
  rw [resolve, immWord, ho]
  rfl

end

/-! ### `LD` to and from memory -/

theorem advance_of_entry {i : Instr} {act : Action} {c : Option Cond} {ops : List Loc} {fmt : Format}
    (he : i.entry = ⟨act, c, ops, fmt⟩) (s : State) :
    advance i s = { s with pc := s.pc + BitVec.ofNat 16 fmt.length } := by
  rw [advance, Instr.length, he]
  rfl

section
variable (i : Instr) {l : Loc} {fmt : Format} (s : State) {u : State} {addr : Word}

/-- `LD` of a register to memory: the stored byte and the address are those before the step, and `HL` keeps
the side effect of `HL+` and `HL-` (40_step.md R139). -/
theorem exec_ld_mem_reg8 (q : Reg8) (he : i.entry = ⟨.ld, none, [l, .reg8 q], fmt⟩)
    (hl : resolve i l { s with pc := s.pc + BitVec.ofNat 16 fmt.length } = (.byteAt addr, u)) :
    exec i s = .next (u.writeByte addr (s.reg8 q)) := by
  have hw : store8 i l (s.reg8 q) (advance i s) = some (u.writeByte addr (s.reg8 q)) := by
    rw [advance_of_entry he, store8, hl]
    rfl
  exact exec_ld he (fetch8_reg8 ..) (by rwa [State.reg8_advance])

/-- `LD` of a register from memory: the loaded byte is the one before the step, and `HL` keeps
the side effect of `HL+` and `HL-` (40_step.md R139). -/
theorem exec_ld_reg8_mem (r : Reg8) (he : i.entry = ⟨.ld, none, [.reg8 r, l], fmt⟩)
    (hl : resolve i l { s with pc := s.pc + BitVec.ofNat 16 fmt.length } = (.byteAt addr, u)) :
    exec i s = .next (u.setReg8 r (s.readByte addr)) := by
  have hmem : u.mem = s.mem := by
    have h := resolve_mem i l { s with pc := s.pc + BitVec.ofNat 16 fmt.length }
    rwa [hl] at h
  have hr : fetch8 i l (advance i s) = some (s.readByte addr, u) := by
    rw [advance_of_entry he, fetch8, hl, State.readByte, ← hmem]
    rfl
  exact exec_ld he hr (store8_reg8 ..)

end

/-! ### The rows -/

/-- Settles O38: each row stores `A` through its own Location, whose place is the address. -/
theorem ldStoreA : Obligations.LdStoreA := by
  intro s imm8 imm16
  exact ⟨exec_ld_mem_reg8 .ld_indBC_A s .A rfl (resolve_indByte _ _ .BC),
    exec_ld_mem_reg8 .ld_indDE_A s .A rfl (resolve_indByte _ _ .DE),
    exec_ld_mem_reg8 .ld_indHLinc_A s .A rfl (resolve_indHLInc ..),
    exec_ld_mem_reg8 .ld_indHLdec_A s .A rfl (resolve_indHLDec ..),
    exec_ld_mem_reg8 .ld_indC_A s .A rfl (resolve_indC ..),
    exec_ld_mem_reg8 (.ldh_indA8_A imm8) s .A rfl (resolve_immIndByte8 _ rfl),
    exec_ld_mem_reg8 (.ld_indA16_A imm16) s .A rfl (resolve_immIndByte16 _ rfl)⟩

/-- Settles O39: each row loads `A` through its own Location, whose place is the address. -/
theorem ldLoadA : Obligations.LdLoadA := by
  intro s imm8 imm16
  exact ⟨exec_ld_reg8_mem .ld_A_indBC s .A rfl (resolve_indByte _ _ .BC),
    exec_ld_reg8_mem .ld_A_indDE s .A rfl (resolve_indByte _ _ .DE),
    exec_ld_reg8_mem .ld_A_indHLinc s .A rfl (resolve_indHLInc ..),
    exec_ld_reg8_mem .ld_A_indHLdec s .A rfl (resolve_indHLDec ..),
    exec_ld_reg8_mem .ld_A_indC s .A rfl (resolve_indC ..),
    exec_ld_reg8_mem (.ldh_A_indA8 imm8) s .A rfl (resolve_immIndByte8 _ rfl),
    exec_ld_reg8_mem (.ld_A_indA16 imm16) s .A rfl (resolve_immIndByte16 _ rfl)⟩

end Sys2Proof.Machine
end

section
/-!
The 16-bit loads (43_ld16.md R300): what the Action does from the row of its instruction, and the equation of a pair
loaded with the immediate word. An instruction is then known by its row.
-/
namespace Sys2Proof.Machine

/-- `LD16` reads its source after the advance and then writes its destination. -/
theorem exec_ld16 {i : Instr} {dest src : Loc} {fmt : Format} {v : Word} {s u t : State}
    (he : i.entry = ⟨.ld16, none, [dest, src], fmt⟩) (hr : fetch16 i src (advance i s) = some (v, u))
    (hw : store16 i dest v u = some t) : exec i s = .next t := by
  rw [exec_eq_dispatch, he]
  exact finish_next.mpr (Option.bind_eq_some_iff.mpr ⟨(v, u), hr, hw⟩)

theorem fetch16_imm16 {i : Instr} {v : Word} (ho : i.operand = .imm16 v) (s : State) :
    fetch16 i .imm16 s = some (v, s) := by
  rw [fetch16, resolve, immWord, ho]
  rfl

theorem store16_reg16 (i : Instr) (rr : Pair) (v : Word) (s : State) :
    store16 i (.reg16 rr) v s = some (s.setPair rr v) := rfl

/-- `LD rr,d16`: `setPair` puts the high byte in the pair's first register and the low byte in its second. -/
theorem exec_ld16_reg16_d16 (i : Instr) (rr : Pair) (v : Word) (s : State)
    (he : i.entry = ⟨.ld16, none, [.reg16 rr, .imm16], .OP_D16⟩) (ho : i.operand = .imm16 v) :
    exec i s = .next ({ s with pc := s.pc + 3 }.setPair rr v) := by
  rw [exec_ld16 he (fetch16_imm16 ho _) (store16_reg16 ..), advance_of_entry he]
  rfl

/-- Settles O40: each row has its own pair as destination and the immediate word as source. -/
theorem ld16Result : Obligations.Ld16Result := by
  intro s imm16
  exact ⟨exec_ld16_reg16_d16 (.ld_BC_d16 imm16) .BC imm16 s rfl rfl,
    exec_ld16_reg16_d16 (.ld_DE_d16 imm16) .DE imm16 s rfl rfl,
    exec_ld16_reg16_d16 (.ld_HL_d16 imm16) .HL imm16 s rfl rfl⟩

end Sys2Proof.Machine
end

section
/-!
The jumps (44_jp.md R310): what the Action does from the row of its instruction, what each condition asks of the flag
byte (40_step.md R147), and the jump to its own address.
-/
namespace Sys2Proof.Machine

/-! ### The conditions -/

theorem condHolds_NZ (fb : Byte) : condHolds .NZ fb = true ↔ fb &&& 0x80 = 0 := by
  simp [condHolds, hasFlag, flagMask]

theorem condHolds_Z (fb : Byte) : condHolds .Z fb = true ↔ fb &&& 0x80 ≠ 0 := by
  simp [condHolds, hasFlag, flagMask]

theorem condHolds_NC (fb : Byte) : condHolds .NC fb = true ↔ fb &&& 0x10 = 0 := by
  simp [condHolds, hasFlag, flagMask]

theorem condHolds_C (fb : Byte) : condHolds .C fb = true ↔ fb &&& 0x10 ≠ 0 := by
  simp [condHolds, hasFlag, flagMask]

/-! ### `JP` by the row -/

theorem fetch16_reg16 (i : Instr) (rr : Pair) (s : State) : fetch16 i (.reg16 rr) s = some (s.pair rr, s) := rfl

/-- `JP` reads its target after the advance and overwrites `pc` where the condition holds. -/
theorem exec_jp {i : Instr} {c : Cond} {target : Loc} {fmt : Format} {v : Word} {s : State}
    (he : i.entry = ⟨.jp, some c, [target], fmt⟩) (hr : fetch16 i target (advance i s) = some (v, advance i s)) :
    exec i s = .next { s with pc := if condHolds c s.f = true then v else s.pc + BitVec.ofNat 16 fmt.length } := by
  have hjump : dispatch i.entry i s =
      .next (if condHolds c s.f = true then (advance i s).setPc v else advance i s) := by
    rw [he]
    exact finish_next.mpr (Option.map_eq_some_iff.mpr ⟨_, hr, rfl⟩)
  rw [exec_eq_dispatch, hjump, advance_of_entry he]
  split <;> rfl

section
variable (i : Instr) {c : Cond} (v : Word) (s : State)

/-- `JP cc,a16`, whose condition says `p` of the flag byte. -/
theorem exec_jp_cond_a16 {p : Prop} [Decidable p] (he : i.entry = ⟨.jp, some c, [.imm16], .OP_D16⟩)
    (ho : i.operand = .imm16 v) (hc : condHolds c s.f = true ↔ p) :
    exec i s = .next { s with pc := if p then v else s.pc + 3 } := by
  rw [exec_jp he (fetch16_imm16 ho _), ite_congr (propext hc) (fun _ => rfl) (fun _ => rfl)]
  rfl

variable {i v s}

/-- An unconditional `JP` goes to its target. -/
theorem exec_jp_always {target : Loc} {fmt : Format} (he : i.entry = ⟨.jp, some .always, [target], fmt⟩)
    (hr : fetch16 i target (advance i s) = some (v, advance i s)) : exec i s = .next { s with pc := v } := by
  have halways : condHolds .always s.f = true := rfl
  rw [exec_jp he hr, if_pos halways]

end

theorem exec_jp_a16 (imm16 : Word) (s : State) : exec (.jp_a16 imm16) s = .next { s with pc := imm16 } :=
  exec_jp_always rfl (fetch16_imm16 rfl _)

/-- Settles O41: each row has its own condition, which asks for its flag bit, and the immediate word or `HL` as target. -/
theorem jpResult : Obligations.JpResult := by
  intro s imm16
  exact ⟨exec_jp_cond_a16 (.jp_NZ_a16 imm16) imm16 s rfl rfl (condHolds_NZ _), exec_jp_a16 imm16 s,
    exec_jp_cond_a16 (.jp_Z_a16 imm16) imm16 s rfl rfl (condHolds_Z _),
    exec_jp_cond_a16 (.jp_NC_a16 imm16) imm16 s rfl rfl (condHolds_NC _),
    exec_jp_cond_a16 (.jp_C_a16 imm16) imm16 s rfl rfl (condHolds_C _),
    exec_jp_always rfl (fetch16_reg16 .jp_HL .HL _)⟩

/-! ### The jump to its own address (40_step.md R150) -/

theorem standsAt_jp_a16 {m : Memory} {p t : Word} (hop : m.readByte p = 0xC3)
    (hlo : m.readByte (p + 1) = t.extractLsb' 0 8) (hhi : m.readByte (p + 2) = t.extractLsb' 8 8) :
    StandsAt m p (.jp_a16 t) := by
  rw [standsAt_iff, rawBytes, hop, hlo, hhi]
  rfl

/-- A state that a step leaves as it is stays so for any number of steps. -/
theorem run_of_step_self {M : Host.Core} {s : M.State} (h : M.step s = .next s) (k : Nat) : M.run k s = .next s := by
  induction k with
  | zero => rfl
  | succ k ih =>
    rw [Host.Core.run, h]
    exact ih

/-- Settles O59: the instruction that stands at `pc` is the jump to `pc`, so one step gives the same state again. -/
theorem jumpToSelf : Obligations.JumpToSelf := by
  intro s hop hlo hhi
  have hstep : step s = exec (.jp_a16 s.pc) s := (standsAt_jp_a16 hop hlo hhi).step.1
  have hself : step s = .next s := hstep.trans (exec_jp_a16 s.pc s)
  exact run_of_step_self (M := core) hself

end Sys2Proof.Machine
end

section
/-!
`CPL` and `CCF` (45_cpl_ccf.md R320, R321): the next state of each from its Action, with the flag byte as the number
the rule gives. Both values of `CPL_SETS_NH` and of `CCF_NH_VALUE` are covered.
-/
namespace Sys2Proof.Machine

/-- A flag byte whose low nibble is 0 is written as it is (10_state.md R23). -/
theorem State.setF_of_normF {v : Byte} (h : normF v = v) (s : State) : s.setF v = { s with f := v } := by
  rw [State.setF, h]

/-- The rule's `x[A] ^ 0xFF` is the complement of `A` (45_cpl_ccf.md R320). -/
theorem byte_not_eq_xor (v : Byte) : ~~~v = v ^^^ 0xFF := BitVec.xor_allOnes.symm

theorem exec_cpl (s : State) : exec .cpl s = .next (
    if s.cfg.cplSetsNH then ((advance .cpl s).setReg8 .A (~~~s.a)).setF (cplFlags s.f)
    else (advance .cpl s).setReg8 .A (~~~s.a)) := by
  rw [exec_eq_dispatch]
  rfl

theorem exec_ccf (s : State) : exec .ccf s = .next ((advance .ccf s).setF (ccfFlags s.cfg s.f)) := by
  rw [exec_eq_dispatch]
  rfl

/-- Settles O42: `F` is written only under `CPL_SETS_NH`, so the two values of the parameter are the two cases. -/
theorem cplResult : Obligations.CplResult := by
  intro s
  rw [exec_cpl, byte_not_eq_xor, advance_of_entry_OP rfl]
  split
  case isTrue => rw [State.setF_of_normF (normF_cplFlags _), cplFlags_eq]; rfl
  case isFalse => rfl

/-- Settles O43: the number of the rule is the flag byte that the toggle and the two writes leave. -/
theorem ccfResult : Obligations.CcfResult := by
  intro s
  rw [exec_ccf, State.setF_of_normF (normF_ccfFlags ..), ccfFlags_eq, advance_of_entry_OP rfl]

end Sys2Proof.Machine
end

section
/-!
`INC`, `DEC`, `INC16` and `DEC16` (46_incdec.md R330 to R333): what the Action does from the row of its instruction, one
equation per kind of operand, and the law that `DEC` undoes `INC`.
-/
namespace Sys2Proof.Machine

/-! ### The next state by the row -/

section
variable (i : Instr) (r : Reg8) (rr : Pair) (s : State)

/-- A register modified after the advance, and the flags of its old value. -/
theorem finish_modify8_reg8 (value : Byte → Byte) (flags : Byte → Byte → Byte) :
    finish i s (modify8 i (.reg8 r) value flags (advance i s)) =
      .next (((advance i s).setReg8 r (value (s.reg8 r))).setF (flags s.f (s.reg8 r))) := by
  cases r <;> rfl

/-- `INC r`. -/
theorem exec_inc_reg8 (he : i.entry = ⟨.inc, none, [.reg8 r], .OP⟩) : exec i s =
    .next (((advance i s).setReg8 r (s.reg8 r + 1)).setF (incFlags s.f (s.reg8 r))) := by
  rw [exec_eq_dispatch, he]
  exact finish_modify8_reg8 i r s (· + 1) incFlags

/-- `DEC r`. -/
theorem exec_dec_reg8 (he : i.entry = ⟨.dec, none, [.reg8 r], .OP⟩) : exec i s =
    .next (((advance i s).setReg8 r (s.reg8 r - 1)).setF (decFlags s.f (s.reg8 r))) := by
  rw [exec_eq_dispatch, he]
  exact finish_modify8_reg8 i r s (· - 1) decFlags

/-- `INC r` as the record of the next state. -/
theorem exec_inc_reg8_eq (he : i.entry = ⟨.inc, none, [.reg8 r], .OP⟩) : exec i s =
    .next { { s with pc := s.pc + 1 }.setReg8 r (s.reg8 r + 1) with f := incFlags s.f (s.reg8 r) } := by
  rw [exec_inc_reg8 i r s he, State.setF_of_normF (normF_incFlags ..), advance_of_entry_OP he]

/-- `DEC r` as the record of the next state. -/
theorem exec_dec_reg8_eq (he : i.entry = ⟨.dec, none, [.reg8 r], .OP⟩) : exec i s =
    .next { { s with pc := s.pc + 1 }.setReg8 r (s.reg8 r - 1) with f := decFlags s.f (s.reg8 r) } := by
  rw [exec_dec_reg8 i r s he, State.setF_of_normF (normF_decFlags ..), advance_of_entry_OP he]

/-- `INC rr`. -/
theorem exec_inc16_reg16 (he : i.entry = ⟨.inc16, none, [.reg16 rr], .OP⟩) :
    exec i s = .next ({ s with pc := s.pc + 1 }.setPair rr (s.pair rr + 1)) := by
  rw [exec_eq_dispatch, ← advance_of_entry_OP he, he]
  rfl

/-- `DEC rr`. -/
theorem exec_dec16_reg16 (he : i.entry = ⟨.dec16, none, [.reg16 rr], .OP⟩) :
    exec i s = .next ({ s with pc := s.pc + 1 }.setPair rr (s.pair rr - 1)) := by
  rw [exec_eq_dispatch, ← advance_of_entry_OP he, he]
  rfl

end

/-- Settles O44: seven rows have a register as operand and one has `(HL)`; the number of the rule is the flag byte. -/
theorem incResult : Obligations.IncResult := by
  intro s
  simp only [← incFlags_eq]
  refine ⟨exec_inc_reg8_eq .inc_A .A s rfl, exec_inc_reg8_eq .inc_B .B s rfl, exec_inc_reg8_eq .inc_C .C s rfl,
    exec_inc_reg8_eq .inc_D .D s rfl, exec_inc_reg8_eq .inc_E .E s rfl, exec_inc_reg8_eq .inc_H .H s rfl,
    exec_inc_reg8_eq .inc_L .L s rfl, ?_⟩
  rw [exec_inc_indHL, State.setF_of_normF (normF_incFlags ..), advance_of_entry_OP rfl]
  rfl

/-- Settles O45: seven rows have a register as operand and one has `(HL)`; the number of the rule is the flag byte. -/
theorem decResult : Obligations.DecResult := by
  intro s
  simp only [← decFlags_eq]
  refine ⟨exec_dec_reg8_eq .dec_A .A s rfl, exec_dec_reg8_eq .dec_B .B s rfl, exec_dec_reg8_eq .dec_C .C s rfl,
    exec_dec_reg8_eq .dec_D .D s rfl, exec_dec_reg8_eq .dec_E .E s rfl, exec_dec_reg8_eq .dec_H .H s rfl,
    exec_dec_reg8_eq .dec_L .L s rfl, ?_⟩
  rw [exec_dec_indHL, State.setF_of_normF (normF_decFlags ..), advance_of_entry_OP rfl]
  rfl

/-- Settles O46: each row has its pair as operand, and the equation of its Action applies. -/
theorem incDec16Result : Obligations.IncDec16Result := by
  intro s
  exact ⟨exec_inc16_reg16 .inc_BC .BC s rfl, exec_inc16_reg16 .inc_DE .DE s rfl, exec_inc16_reg16 .inc_HL .HL s rfl,
    exec_dec16_reg16 .dec_BC .BC s rfl, exec_dec16_reg16 .dec_DE .DE s rfl, exec_dec16_reg16 .dec_HL .HL s rfl⟩

/-! ### `INC` and then `DEC` (46_incdec.md R331) -/

@[simp] theorem State.flag_setF (s : State) (v : Byte) (f : Flag) : (s.setF v).flag f = hasFlag v f :=
  hasFlag_normF v f

/-- The flags after `INC` of `v` and then `DEC` of the incremented byte. -/
theorem hasFlag_decFlags_incFlags (fb v : Byte) (f : Flag) : hasFlag (decFlags (incFlags fb v) (v + 1)) f =
    match f with
    | .Z => v == 0x00
    | .N => true
    | .H => v == 0xFF
    | .C => hasFlag fb .C := by
  rw [hasFlag_decFlags]
  cases f with
  | Z => simp only [BitVec.add_sub_cancel]
  | N => rfl
  | H =>
    have hwrap : v + 1 = 0x00 ↔ v = 0xFF := by bv_omega
    rwa [Bool.eq_iff_iff, beq_iff_eq, beq_iff_eq]
  | C => exact hasFlag_incFlags fb v .C

/-- A write and then a write back of the byte that stood there leave a canonical memory as it was. -/
theorem Memory.writeByte_writeByte_readByte {m : Memory} (a : Word) (v : Byte) (hm : m.wf = true) :
    (m.writeByte a v).writeByte a (m.readByte a) = m := by
  cases ha : keyOf a with
  | none => rw [Memory.writeByte_unmapped _ _ ha, Memory.writeByte_unmapped _ _ ha]
  | some k =>
    have hm' := Memory.wf_writeByte a v hm
    refine Memory.eq_of_readByte (Memory.wf_writeByte a _ hm') hm fun b => ?_
    by_cases hb : keyOf b = some k
    · rw [Memory.readByte_writeByte_same _ hm' ha hb, Memory.readByte, Memory.readByte, ha, hb]
    · have hne : keyOf b ≠ keyOf a := ha ▸ hb
      rw [Memory.readByte_writeByte_other _ _ hne, Memory.readByte_writeByte_other _ _ hne]

/-- `INC r` and then `DEC r`, by their rows. -/
theorem incThenDec_reg8 {i j : Instr} {r : Reg8} (hi : i.entry = ⟨.inc, none, [.reg8 r], .OP⟩)
    (hj : j.entry = ⟨.dec, none, [.reg8 r], .OP⟩) (s : State) :
    ∃ t u, exec i s = .next t ∧ exec j t = .next u ∧ u.reg8 r = s.reg8 r ∧ u.flag .Z = (s.reg8 r == 0x00) ∧
      u.flag .N = true ∧ u.flag .H = (s.reg8 r == 0xFF) ∧ u.flag .C = s.flag .C := by
  refine ⟨_, _, exec_inc_reg8 i r s hi, exec_dec_reg8 j r _ hj, ?value, ?flags⟩
  case value =>
    simp only [State.reg8_setF, State.reg8_setReg8, if_true, BitVec.add_sub_cancel]
  case flags =>
    simp only [State.flag_setF, State.reg8_setF, State.reg8_setReg8, if_true, State.setF_f, normF_incFlags,
      hasFlag_decFlags_incFlags, true_and]
    rfl

theorem exec_dec_indHL_of_readByte {s : State} {a : Word} {v : Byte} (ha : s.pair .HL = a) (hv : s.readByte a = v) :
    exec .dec_indHL s = .next (((advance .dec_indHL s).writeByte a (v - 1)).setF (decFlags s.f v)) := by
  subst ha hv
  exact exec_dec_indHL s

/-- Settles O58: `DEC` computes from the byte that `INC` wrote, which at a mapped `HL` is read back. -/
theorem incThenDec : Obligations.IncThenDec := by
  intro s
  constructor
  case left =>
    simp only [List.forall_mem_cons, List.not_mem_nil, false_imp_iff, implies_true, and_true]
    exact ⟨incThenDec_reg8 rfl rfl s, incThenDec_reg8 rfl rfl s, incThenDec_reg8 rfl rfl s, incThenDec_reg8 rfl rfl s,
      incThenDec_reg8 rfl rfl s, incThenDec_reg8 rfl rfl s, incThenDec_reg8 rfl rfl s⟩
  case right =>
    intro hm hHL
    have hread : ((advance .inc_indHL s).writeByte (s.pair .HL) (s.readByte (s.pair .HL) + 1)).readByte (s.pair .HL) =
        s.readByte (s.pair .HL) + 1 :=
      State.readByte_writeByte_same _ hm (mt keyOf_eq_none_iff.mp hHL) rfl
    refine ⟨_, _, exec_inc_indHL s, exec_dec_indHL_of_readByte (a := s.pair .HL) rfl hread, ?mem, ?flags⟩
    case mem =>
      simp only [State.setF_mem, State.writeByte_mem, advance_mem, BitVec.add_sub_cancel]
      exact Memory.writeByte_writeByte_readByte _ _ hm
    case flags =>
      simp only [State.flag_setF, State.setF_f, normF_incFlags, hasFlag_decFlags_incFlags, true_and]
      rfl

end Sys2Proof.Machine
end

section
/-!
`XOR` (47_xor.md R360): what the Action does from the row of its instruction, for every source.
-/
namespace Sys2Proof.Machine

/-- `XOR A,src`, where resolving the source has no side effect. -/
theorem exec_xor {i : Instr} {src : Loc} {fmt : Format} {v : Byte} {s : State}
    (he : i.entry = ⟨.xor, none, [.reg8 .A, src], fmt⟩) (hr : fetch8 i src (advance i s) = some (v, advance i s)) :
    exec i s = .next { advance i s with a := s.a ^^^ v, f := if s.a ^^^ v = 0x00 then 0x80 else 0x00 } := by
  have hxor : dispatch i.entry i s =
      .next (((advance i s).setReg8 .A (s.a ^^^ v)).setF (xorFlags s.f (s.a ^^^ v))) := by
    rw [he]
    exact finish_next.mpr (Option.bind_eq_some_iff.mpr ⟨_, hr, rfl⟩)
  rw [exec_eq_dispatch, hxor, State.setF_of_normF (normF_xorFlags ..), xorFlags_eq]
  rfl

/-- `XOR A,q`. -/
theorem exec_xor_reg8 (i : Instr) (q : Reg8) (s : State)
    (he : i.entry = ⟨.xor, none, [.reg8 .A, .reg8 q], .OP⟩) : exec i s =
    .next { s with a := s.a ^^^ s.reg8 q, pc := s.pc + 1, f := if s.a ^^^ s.reg8 q = 0x00 then 0x80 else 0x00 } := by
  rw [exec_xor he (fetch8_reg8 ..), State.reg8_advance, advance_of_entry_OP he]

/-- Settles O47: each row has the destination `A` and its own source; `A` with itself gives 0. -/
theorem xorResult : Obligations.XorResult := by
  intro s imm8
  refine ⟨exec_xor_reg8 .xor_A_B .B s rfl, exec_xor_reg8 .xor_A_C .C s rfl, exec_xor_reg8 .xor_A_D .D s rfl,
    exec_xor_reg8 .xor_A_E .E s rfl, exec_xor_reg8 .xor_A_H .H s rfl, exec_xor_reg8 .xor_A_L .L s rfl,
    ?indHL, ?self, ?d8⟩
  case indHL => exact exec_xor (i := .xor_A_indHL) rfl (fetch8_indHL ..)
  case self =>
    rw [exec_xor_reg8 .xor_A_A .A s rfl, State.reg8_A, BitVec.xor_self]
    rfl
  case d8 => exact exec_xor (i := .xor_A_d8 imm8) rfl (fetch8_imm8 rfl _)

end Sys2Proof.Machine
end

section
/-!
The traps of the table (48_alu_unhandled.md R380, 49_unimplemented_illegal.md R450, R510): what an instruction that does
not execute raises, by its opcode and its Action, and that the opcode byte alone decides the outcome of a step.
-/
namespace Sys2Proof.Machine

/-- An instruction whose Action neither executes nor is illegal raises `UnimplementedAction` with the record of R604. -/
theorem trapsUnimplemented_of_action {i : Instr} {opcode : Byte} {action : Action} (ho : i.opcode = opcode)
    (ha : i.entry.action = action) (hx : action.executes = false) (hi : (action == .illegal) = false) (s : State) :
    TrapsUnimplemented i opcode action s := by
  subst ho ha
  have hcond : i.entry.cond = none := cond_eq_none fun hj => by rw [hj] at hx; cases hx
  rw [TrapsUnimplemented, exec_of_not_executes hx (beq_eq_false_iff_ne.mp hi), encode_length, ← hcond]
  rfl

/-- Settles O48: each row has the Action `ADD` or `ADD16`, which does not execute. -/
theorem addTraps : Obligations.AddTraps := by
  intro s imm8
  and_intros
  all_goals exact trapsUnimplemented_of_action rfl rfl rfl rfl s

/-- Settles O49: each row has the Action `ADC` or `SUB`, which does not execute. -/
theorem adcSubTraps : Obligations.AdcSubTraps := by
  intro s imm8
  and_intros
  all_goals exact trapsUnimplemented_of_action rfl rfl rfl rfl s

/-- Settles O50: each row has the Action `SBC` or `AND`, which does not execute. -/
theorem sbcAndTraps : Obligations.SbcAndTraps := by
  intro s imm8
  and_intros
  all_goals exact trapsUnimplemented_of_action rfl rfl rfl rfl s

/-- Settles O51: each row has the Action `OR` or `CP`, which does not execute. -/
theorem orCpTraps : Obligations.OrCpTraps := by
  intro s imm8
  and_intros
  all_goals exact trapsUnimplemented_of_action rfl rfl rfl rfl s

/-- Settles O52: each row is tagged `UNIMPLEMENTED`. -/
theorem miscTraps : Obligations.MiscTraps := by
  intro s imm8
  and_intros
  all_goals exact trapsUnimplemented_of_action rfl rfl rfl rfl s

/-- Settles O53: each row is tagged `UNIMPLEMENTED`. -/
theorem jrCallTraps : Obligations.JrCallTraps := by
  intro s imm8 imm16
  and_intros
  all_goals exact trapsUnimplemented_of_action rfl rfl rfl rfl s

/-- Settles O54: each row is tagged `UNIMPLEMENTED`. -/
theorem retRstTraps : Obligations.RetRstTraps := by
  intro s
  and_intros
  all_goals exact trapsUnimplemented_of_action rfl rfl rfl rfl s

/-- Settles O55: each row is tagged `UNIMPLEMENTED`. -/
theorem pushPopTraps : Obligations.PushPopTraps := by
  intro s
  and_intros
  all_goals exact trapsUnimplemented_of_action rfl rfl rfl rfl s

/-- Settles O56: each row is tagged `UNIMPLEMENTED`. -/
theorem spOperandTraps : Obligations.SpOperandTraps := by
  intro s imm8 imm16
  and_intros
  all_goals exact trapsUnimplemented_of_action rfl rfl rfl rfl s

/-- Settles O57: the rows are illegal and have one byte. -/
theorem illegalTraps : Obligations.IllegalTraps := by
  intro s
  exact ⟨rfl, exec_of_illegal rfl s, rfl, exec_of_illegal rfl s, rfl, exec_of_illegal rfl s,
    rfl, exec_of_illegal rfl s, rfl, exec_of_illegal rfl s, rfl, exec_of_illegal rfl s, rfl, exec_of_illegal rfl s,
    rfl, exec_of_illegal rfl s, rfl, exec_of_illegal rfl s, rfl, exec_of_illegal rfl s, rfl, exec_of_illegal rfl s⟩

/-- The Action of an instruction decides its outcome in every state. -/
theorem exec_outcome (i : Instr) (s : State) :
    (Completes (exec i s) ↔ i.entry.action.executes = true) ∧
    (TrapsWith 1 (exec i s) ↔ i.entry.action = .illegal) ∧
    (TrapsWith 2 (exec i s) ↔ i.entry.action.executes = false ∧ i.entry.action ≠ .illegal) := by
  by_cases hi : i.entry.action = .illegal
  · simp [exec_of_illegal hi, hi, raise, Completes, TrapsWith, Fault.code, Action.executes]
  · cases hx : i.entry.action.executes with
    | false => simp [exec_of_not_executes hx hi, hi, raise, Completes, TrapsWith, Fault.code]
    | true =>
      obtain ⟨t, ht⟩ := exec_completes hx s
      simp [ht, hi, Completes, TrapsWith]

/-- Settles O9: the step runs an instruction of the opcode byte at `pc`, whose row is the entry of the byte; the numbers
are counted in the table. -/
theorem outcomeByOpcodeAlone : Obligations.OutcomeByOpcodeAlone := by
  refine ⟨fun s => ?_, by decide +kernel, by decide +kernel, opcodeTable_length⟩
  obtain ⟨imm8, imm16, hstep⟩ := step_eq_exec_instrOf s
  rw [hstep, ← entry_instrOf _ imm8 imm16]
  exact exec_outcome _ s

end Sys2Proof.Machine
end

section
/-!
When `construct` builds a machine (70_reset_and_hazards.md R641, R643), and the reset state as its value.
-/
namespace Sys2Proof.Machine

/-! ### The arguments `construct` accepts -/

section
variable (cfg : Config) {rom : List Byte} (ram : RamInit) {seed : List (Word × Byte)}

theorem construct_eq_some (hrom : 0x8000 ≤ rom.length) (hseed : seedOk seed = true) : construct cfg rom ram seed =
    some { State.reset with mem := seedIo (filledStores rom ram) seed, cfg := cfg } :=
  if_pos ⟨hrom, hseed⟩

theorem construct_isSome_iff :
    (construct cfg rom ram seed).isSome = true ↔ 0x8000 ≤ rom.length ∧ seedOk seed = true := by
  constructor
  · intro h
    obtain ⟨s, hs⟩ := Option.isSome_iff_exists.mp h
    obtain ⟨hrom, hseed, -⟩ := construct_some hs
    exact ⟨hrom, hseed⟩
  · rintro ⟨hrom, hseed⟩
    rw [construct_eq_some cfg ram hrom hseed]
    rfl

end

/-- Settles O27: `seedOk` says what an `IO_SEED` is, and only the first 0x8000 bytes of the image are used. -/
theorem constructRefusal : Obligations.ConstructRefusal := by
  intro cfg rom ram seed
  refine ⟨by rw [construct_isSome_iff, seedOk_iff], fun h => ?_⟩
  have hlen : 0x8000 ≤ (rom.take 0x8000).length := Nat.le_of_eq (List.length_take_of_le h).symm
  simp only [construct, h, hlen, List.take_take, Nat.min_self]

/-! ### The reset state -/

/-- Every key is an offset in a store. -/
theorem exists_store_of_validKey {k : Nat} (h : validKey k = true) :
    ∃ (st : Store) (n : Nat), n < st.size ∧ k = st.base + n := by
  obtain ⟨a, ha⟩ := exists_keyOf h
  obtain ⟨⟨st, n⟩, hr, hk⟩ := Option.map_eq_some_iff.mp ha
  exact ⟨st, n, (route_some hr).1, hk.symm⟩

theorem toNat_ofNat_store {st : Store} {n : Nat} (h : n < st.size) :
    (BitVec.ofNat 16 (st.base + n)).toNat = st.base + n := by
  rw [BitVec.toNat_ofNat]
  cases st <;> simp only [Store.base, Store.size] at h ⊢ <;> omega

/-- A canonical memory whose stores read as unlisted lists nothing. -/
theorem Memory.eq_nil_of_readByte {m : Memory} (hm : m.wf = true)
    (h : ∀ (st : Store) (n : Nat), n < st.size →
      m.readByte (BitVec.ofNat 16 (st.base + n)) = unlistedByte (st.base + n)) : m = [] := by
  refine Memory.eq_of_readKey hm Memory.wf_nil fun k => ?_
  cases hk : validKey k with
  | false => exact Memory.readKey_of_not_valid hm hk
  | true =>
    obtain ⟨st, n, hn, rfl⟩ := exists_store_of_validKey hk
    have hread := h st n hn
    rwa [Memory.readByte, keyOf_ofNat hk] at hread

theorem seedByte_of_forall_ne {k : Nat} {l : List (Word × Byte)} (h : ∀ p ∈ l, p.1.toNat ≠ k) :
    seedByte k l = 0x00 := by
  induction l with
  | nil => rfl
  | cons p l ih =>
    obtain ⟨hp, hl⟩ := List.forall_mem_cons.mp h
    rw [seedByte, if_neg hp, ih hl]

/-- A byte of the I/O page that the default `IO_SEED` names reads as its byte when unlisted. -/
theorem unlistedByte_of_mem_ioSeedDefault {p : Word × Byte} (hp : p ∈ ioSeedDefault) :
    unlistedByte p.1.toNat = p.2 := by
  have hall : (ioSeedDefault.all fun p => unlistedByte p.1.toNat == p.2) = true := by decide +kernel
  exact beq_iff_eq.mp (List.all_eq_true.mp hall p hp)

/-- A byte that the default `IO_SEED` does not name reads as 0 when unlisted. -/
theorem unlistedByte_of_not_mem {k : Nat} (h : ∀ p ∈ ioSeedDefault, p.1.toNat ≠ k) : unlistedByte k = 0x00 := by
  rw [unlistedByte, seedByte_of_forall_ne h, ite_self]

/-- Stores of zeros, seeded with the default `IO_SEED`, read as unlisted. -/
theorem seedIo_filledStores_of_zero {rom : List Byte} {ram : RamInit} (hrom : 0x8000 ≤ rom.length)
    (hzero : ∀ st, ∀ v ∈ storeImage rom ram st, v = 0x00) : seedIo (filledStores rom ram) ioSeedDefault = [] := by
  have hseed : seedOk ioSeedDefault = true := by decide +kernel
  obtain ⟨hio, hdist⟩ := (seedOk_iff _).mp hseed
  have hwf := wf_filledStores ram hrom
  refine Memory.eq_nil_of_readByte (wf_seedIo _ _ hwf) fun st n hn => ?_
  have hk : (BitVec.ofNat 16 (st.base + n)).toNat = st.base + n := toNat_ofNat_store hn
  by_cases h : ∃ p ∈ ioSeedDefault, p.1 = BitVec.ofNat 16 (st.base + n)
  · obtain ⟨p, hp, he⟩ := h
    rw [← he, readByte_seedIo hwf hio hdist hp, ← hk, ← he, unlistedByte_of_mem_ioSeedDefault hp]
  · have hout : ∀ p ∈ ioSeedDefault, p.1 ≠ BitVec.ofNat 16 (st.base + n) := fun p hp e => h ⟨p, hp, e⟩
    rw [readByte_seedIo_filledStores hrom hn hio hout, hzero _ _ (List.getElem_mem _), unlistedByte_of_not_mem]
    intro p hp e
    exact hout p hp (BitVec.eq_of_toNat_eq (e.trans hk.symm))

/-- Settles O28: the stores of zeros with the seed over them hold what an address of an empty memory reads as. -/
theorem resetIsConstruct : Obligations.ResetIsConstruct := by
  have hrom : 0x8000 ≤ (List.replicate 0x8000 (0x00 : Byte)).length := Nat.le_of_eq List.length_replicate.symm
  unfold Obligations.ResetIsConstruct
  rw [construct_eq_some _ _ hrom (by decide +kernel), seedIo_filledStores_of_zero hrom]
  · rfl
  · intro st v hv
    cases st with
    | rom => exact List.eq_of_mem_replicate (List.mem_of_mem_take hv)
    | vram | cram | wram | oam | zram => exact (Vector.mem_replicate.mp (Vector.mem_toList_iff.mp hv)).2

end Sys2Proof.Machine
end
